-- ==== Sys2Proof/Word.lean ====
section
/-! DEFINITION. Octets, words and the names of operands (00_scope.md R5, R6; 30_encoding.md R83). -/

namespace Sys2Proof

/-- An octet: the width of a general register and of the byte ALU path (R5). -/
abbrev Byte := BitVec 8

/-- A word: the width of a register pair, of `pc` and of an address (R5). -/
abbrev Word := BitVec 16

/-- The seven operand registers an `r` field selects (10_state.md R20); F is none of them. -/
inductive Reg where
  | a | b | c | d | e | h | l
deriving DecidableEq, Repr

/-- The pairs an `rr` field selects (10_state.md R21). -/
inductive RegPair where
  | bc | de | hl | sp
deriving DecidableEq, Repr

/-- The pairs a `qq` field selects (10_state.md R21). -/
inductive StackPair where
  | bc | de | hl | af
deriving DecidableEq, Repr

/-- The eight conditions a `cc` field selects (41_alu.md R140). -/
inductive Cond where
  | nz | z | nc | c | po | pe | p | m
deriving DecidableEq, Repr

/-- The implemented operations of the `kkk` field, the accumulator's (30_encoding.md R83). -/
inductive AluOp where
  | add | adc | sub | sbc | and | xor | or
deriving DecidableEq, Repr

end Sys2Proof
end

