-- ==== Sys2Proof/Syntax.lean ====
section
/-! DEFINITION. The instructions of the sms-rust CORE: one constructor per row of spec/opcode_table.json
(30_encoding.md R86). An immediate is carried as the value FetchByte or FetchWord assembles (R84), so an
instruction is a value of this type whatever its operand bytes. -/

namespace Sys2Proof

/-- The 202 instructions. `Imm` is an immediate `n`, `AtHL` the byte at HL, `Abs` the operand `(nn)`. -/
inductive Instr where
  -- Control
  | /-- `NOP`, R150. -/ nop
  | /-- `HALT`, R151. -/ halt
  | /-- `RET NZ`, R157. -/ retNZ
  | /-- `JP NZ,nn`, R153. -/ jpNZ (nn : Word)
  | /-- `JP nn`, R152. -/ jp (nn : Word)
  | /-- `CALL NZ,nn`, R155. -/ callNZ (nn : Word)
  | /-- `RET Z`, R157. -/ retZ
  | /-- `RET`, R156. -/ ret
  | /-- `JP Z,nn`, R153. -/ jpZ (nn : Word)
  | /-- `CALL Z,nn`, R155. -/ callZ (nn : Word)
  | /-- `CALL nn`, R154. -/ call (nn : Word)
  | /-- `RET NC`, R157. -/ retNC
  | /-- `JP NC,nn`, R153. -/ jpNC (nn : Word)
  | /-- `CALL NC,nn`, R155. -/ callNC (nn : Word)
  | /-- `RET C`, R157. -/ retC
  | /-- `JP C,nn`, R153. -/ jpC (nn : Word)
  | /-- `CALL C,nn`, R155. -/ callC (nn : Word)
  | /-- `RET PO`, R157. -/ retPO
  | /-- `JP PO,nn`, R153. -/ jpPO (nn : Word)
  | /-- `CALL PO,nn`, R155. -/ callPO (nn : Word)
  | /-- `RET PE`, R157. -/ retPE
  | /-- `JP PE,nn`, R153. -/ jpPE (nn : Word)
  | /-- `CALL PE,nn`, R155. -/ callPE (nn : Word)
  | /-- `RET P`, R157. -/ retP
  | /-- `JP P,nn`, R153. -/ jpP (nn : Word)
  | /-- `CALL P,nn`, R155. -/ callP (nn : Word)
  | /-- `RET M`, R157. -/ retM
  | /-- `JP M,nn`, R153. -/ jpM (nn : Word)
  | /-- `CALL M,nn`, R155. -/ callM (nn : Word)
  -- 8-bit arithmetic
  | /-- `INC B`, R188. -/ incB
  | /-- `DEC B`, R189. -/ decB
  | /-- `INC C`, R188. -/ incC
  | /-- `DEC C`, R189. -/ decC
  | /-- `INC D`, R188. -/ incD
  | /-- `DEC D`, R189. -/ decD
  | /-- `INC E`, R188. -/ incE
  | /-- `DEC E`, R189. -/ decE
  | /-- `INC H`, R188. -/ incH
  | /-- `DEC H`, R189. -/ decH
  | /-- `INC L`, R188. -/ incL
  | /-- `DEC L`, R189. -/ decL
  | /-- `INC A`, R188. -/ incA
  | /-- `DEC A`, R189. -/ decA
  | /-- `ADD A,B`, R180. -/ addAB
  | /-- `ADD A,C`, R180. -/ addAC
  | /-- `ADD A,D`, R180. -/ addAD
  | /-- `ADD A,E`, R180. -/ addAE
  | /-- `ADD A,H`, R180. -/ addAH
  | /-- `ADD A,L`, R180. -/ addAL
  | /-- `ADD A,A`, R180. -/ addAA
  | /-- `ADC A,B`, R182. -/ adcAB
  | /-- `ADC A,C`, R182. -/ adcAC
  | /-- `ADC A,D`, R182. -/ adcAD
  | /-- `ADC A,E`, R182. -/ adcAE
  | /-- `ADC A,H`, R182. -/ adcAH
  | /-- `ADC A,L`, R182. -/ adcAL
  | /-- `ADC A,A`, R182. -/ adcAA
  | /-- `SUB B`, R184. -/ subB
  | /-- `SUB C`, R184. -/ subC
  | /-- `SUB D`, R184. -/ subD
  | /-- `SUB E`, R184. -/ subE
  | /-- `SUB H`, R184. -/ subH
  | /-- `SUB L`, R184. -/ subL
  | /-- `SUB A`, R184. -/ subA
  | /-- `SBC A,B`, R186. -/ sbcAB
  | /-- `SBC A,C`, R186. -/ sbcAC
  | /-- `SBC A,D`, R186. -/ sbcAD
  | /-- `SBC A,E`, R186. -/ sbcAE
  | /-- `SBC A,H`, R186. -/ sbcAH
  | /-- `SBC A,L`, R186. -/ sbcAL
  | /-- `SBC A,A`, R186. -/ sbcAA
  | /-- `ADD A,n`, R181. -/ addAImm (n : Byte)
  | /-- `ADC A,n`, R183. -/ adcAImm (n : Byte)
  | /-- `SUB n`, R185. -/ subImm (n : Byte)
  | /-- `SBC A,n`, R187. -/ sbcAImm (n : Byte)
  -- 16-bit arithmetic
  | /-- `INC BC`, R210. -/ incBC
  | /-- `ADD HL,BC`, R212. -/ addHLBC
  | /-- `DEC BC`, R211. -/ decBC
  | /-- `INC DE`, R210. -/ incDE
  | /-- `ADD HL,DE`, R212. -/ addHLDE
  | /-- `DEC DE`, R211. -/ decDE
  | /-- `INC HL`, R210. -/ incHL
  | /-- `ADD HL,HL`, R212. -/ addHLHL
  | /-- `DEC HL`, R211. -/ decHL
  | /-- `INC SP`, R210. -/ incSP
  | /-- `ADD HL,SP`, R212. -/ addHLSP
  | /-- `DEC SP`, R211. -/ decSP
  -- Bitwise
  | /-- `RLCA`, R237. -/ rlca
  | /-- `CPL`, R240. -/ cpl
  | /-- `SCF`, R238. -/ scf
  | /-- `CCF`, R239. -/ ccf
  | /-- `AND B`, R231. -/ andB
  | /-- `AND C`, R231. -/ andC
  | /-- `AND D`, R231. -/ andD
  | /-- `AND E`, R231. -/ andE
  | /-- `AND H`, R231. -/ andH
  | /-- `AND L`, R231. -/ andL
  | /-- `AND A`, R231. -/ andA
  | /-- `XOR B`, R235. -/ xorB
  | /-- `XOR C`, R235. -/ xorC
  | /-- `XOR D`, R235. -/ xorD
  | /-- `XOR E`, R235. -/ xorE
  | /-- `XOR H`, R235. -/ xorH
  | /-- `XOR L`, R235. -/ xorL
  | /-- `XOR A`, R235. -/ xorA
  | /-- `OR B`, R233. -/ orB
  | /-- `OR C`, R233. -/ orC
  | /-- `OR D`, R233. -/ orD
  | /-- `OR E`, R233. -/ orE
  | /-- `OR H`, R233. -/ orH
  | /-- `OR L`, R233. -/ orL
  | /-- `OR A`, R233. -/ orA
  | /-- `AND n`, R232. -/ andImm (n : Byte)
  | /-- `XOR n`, R236. -/ xorImm (n : Byte)
  | /-- `OR n`, R234. -/ orImm (n : Byte)
  -- Exchange
  | /-- `EX AF,AF'`, R260. -/ exAFAF
  | /-- `EXX`, R261. -/ exx
  | /-- `EX (SP),HL`, R263. -/ exSPHL
  | /-- `EX DE,HL`, R262. -/ exDEHL
  -- Memory
  | /-- `LD B,n`, R283. -/ ldBImm (n : Byte)
  | /-- `LD C,n`, R283. -/ ldCImm (n : Byte)
  | /-- `LD D,n`, R283. -/ ldDImm (n : Byte)
  | /-- `LD E,n`, R283. -/ ldEImm (n : Byte)
  | /-- `LD (nn),HL`, R287. -/ ldAbsHL (nn : Word)
  | /-- `LD H,n`, R283. -/ ldHImm (n : Byte)
  | /-- `LD HL,(nn)`, R286. -/ ldHLAbs (nn : Word)
  | /-- `LD L,n`, R283. -/ ldLImm (n : Byte)
  | /-- `LD (nn),A`, R285. -/ ldAbsA (nn : Word)
  | /-- `LD (HL),n`, R288. -/ ldAtHLImm (n : Byte)
  | /-- `LD A,(nn)`, R284. -/ ldAAbs (nn : Word)
  | /-- `LD A,n`, R283. -/ ldAImm (n : Byte)
  | /-- `LD B,B`, R280. -/ ldBB
  | /-- `LD B,C`, R280. -/ ldBC
  | /-- `LD B,D`, R280. -/ ldBD
  | /-- `LD B,E`, R280. -/ ldBE
  | /-- `LD B,H`, R280. -/ ldBH
  | /-- `LD B,L`, R280. -/ ldBL
  | /-- `LD B,(HL)`, R281. -/ ldBAtHL
  | /-- `LD B,A`, R280. -/ ldBA
  | /-- `LD C,B`, R280. -/ ldCB
  | /-- `LD C,C`, R280. -/ ldCC
  | /-- `LD C,D`, R280. -/ ldCD
  | /-- `LD C,E`, R280. -/ ldCE
  | /-- `LD C,H`, R280. -/ ldCH
  | /-- `LD C,L`, R280. -/ ldCL
  | /-- `LD C,(HL)`, R281. -/ ldCAtHL
  | /-- `LD C,A`, R280. -/ ldCA
  | /-- `LD D,B`, R280. -/ ldDB
  | /-- `LD D,C`, R280. -/ ldDC
  | /-- `LD D,D`, R280. -/ ldDD
  | /-- `LD D,E`, R280. -/ ldDE
  | /-- `LD D,H`, R280. -/ ldDH
  | /-- `LD D,L`, R280. -/ ldDL
  | /-- `LD D,(HL)`, R281. -/ ldDAtHL
  | /-- `LD D,A`, R280. -/ ldDA
  | /-- `LD E,B`, R280. -/ ldEB
  | /-- `LD E,C`, R280. -/ ldEC
  | /-- `LD E,D`, R280. -/ ldED
  | /-- `LD E,E`, R280. -/ ldEE
  | /-- `LD E,H`, R280. -/ ldEH
  | /-- `LD E,L`, R280. -/ ldEL
  | /-- `LD E,(HL)`, R281. -/ ldEAtHL
  | /-- `LD E,A`, R280. -/ ldEA
  | /-- `LD H,B`, R280. -/ ldHB
  | /-- `LD H,C`, R280. -/ ldHC
  | /-- `LD H,D`, R280. -/ ldHD
  | /-- `LD H,E`, R280. -/ ldHE
  | /-- `LD H,H`, R280. -/ ldHH
  | /-- `LD H,L`, R280. -/ ldHL
  | /-- `LD H,(HL)`, R281. -/ ldHAtHL
  | /-- `LD H,A`, R280. -/ ldHA
  | /-- `LD L,B`, R280. -/ ldLB
  | /-- `LD L,C`, R280. -/ ldLC
  | /-- `LD L,D`, R280. -/ ldLD
  | /-- `LD L,E`, R280. -/ ldLE
  | /-- `LD L,H`, R280. -/ ldLH
  | /-- `LD L,L`, R280. -/ ldLL
  | /-- `LD L,(HL)`, R281. -/ ldLAtHL
  | /-- `LD L,A`, R280. -/ ldLA
  | /-- `LD (HL),B`, R282. -/ ldAtHLB
  | /-- `LD (HL),C`, R282. -/ ldAtHLC
  | /-- `LD (HL),D`, R282. -/ ldAtHLD
  | /-- `LD (HL),E`, R282. -/ ldAtHLE
  | /-- `LD (HL),H`, R282. -/ ldAtHLH
  | /-- `LD (HL),L`, R282. -/ ldAtHLL
  | /-- `LD (HL),A`, R282. -/ ldAtHLA
  | /-- `LD A,B`, R280. -/ ldAB
  | /-- `LD A,C`, R280. -/ ldAC
  | /-- `LD A,D`, R280. -/ ldAD
  | /-- `LD A,E`, R280. -/ ldAE
  | /-- `LD A,H`, R280. -/ ldAH
  | /-- `LD A,L`, R280. -/ ldAL
  | /-- `LD A,(HL)`, R281. -/ ldAAtHL
  | /-- `LD A,A`, R280. -/ ldAA
  -- Stack
  | /-- `POP BC`, R323. -/ popBC
  | /-- `PUSH BC`, R322. -/ pushBC
  | /-- `POP DE`, R323. -/ popDE
  | /-- `PUSH DE`, R322. -/ pushDE
  | /-- `POP HL`, R323. -/ popHL
  | /-- `PUSH HL`, R322. -/ pushHL
  | /-- `POP AF`, R323. -/ popAF
  | /-- `PUSH AF`, R322. -/ pushAF
deriving DecidableEq, Repr

end Sys2Proof
end

