-- ==== Sys2Proof/Decode.lean ====
section
/-! DEFINITION. The encoding of instructions (30_encoding.md): the decoder, from the bit patterns of R82 and
the field codes of R83, and the encoder, from the opcode map of R86. Every byte value is the spec's, from
general knowledge of the Z80 (92_eei_decisions.md D1; log entry 9). -/

namespace Sys2Proof

/-! ## Bytes of a word (00_scope.md R6, 20_memory.md R56) -/

/-- `v[15:8]`. -/
def hiByte (v : Word) : Byte := v.extractLsb' 8 8

/-- `v[7:0]`. -/
def loByte (v : Word) : Byte := v.extractLsb' 0 8

/-- `{hi, lo}`. -/
def joinBytes (hi lo : Byte) : Word := (hi ++ lo : BitVec (8 + 8))

/-! ## Instructions by shape: an operand field names one of several constructors -/

/-- `LD r,r'` (`01dddsss`, R82, R280). -/
def Instr.ldReg : Reg → Reg → Instr
  | .b, .b => .ldBB
  | .b, .c => .ldBC
  | .b, .d => .ldBD
  | .b, .e => .ldBE
  | .b, .h => .ldBH
  | .b, .l => .ldBL
  | .b, .a => .ldBA
  | .c, .b => .ldCB
  | .c, .c => .ldCC
  | .c, .d => .ldCD
  | .c, .e => .ldCE
  | .c, .h => .ldCH
  | .c, .l => .ldCL
  | .c, .a => .ldCA
  | .d, .b => .ldDB
  | .d, .c => .ldDC
  | .d, .d => .ldDD
  | .d, .e => .ldDE
  | .d, .h => .ldDH
  | .d, .l => .ldDL
  | .d, .a => .ldDA
  | .e, .b => .ldEB
  | .e, .c => .ldEC
  | .e, .d => .ldED
  | .e, .e => .ldEE
  | .e, .h => .ldEH
  | .e, .l => .ldEL
  | .e, .a => .ldEA
  | .h, .b => .ldHB
  | .h, .c => .ldHC
  | .h, .d => .ldHD
  | .h, .e => .ldHE
  | .h, .h => .ldHH
  | .h, .l => .ldHL
  | .h, .a => .ldHA
  | .l, .b => .ldLB
  | .l, .c => .ldLC
  | .l, .d => .ldLD
  | .l, .e => .ldLE
  | .l, .h => .ldLH
  | .l, .l => .ldLL
  | .l, .a => .ldLA
  | .a, .b => .ldAB
  | .a, .c => .ldAC
  | .a, .d => .ldAD
  | .a, .e => .ldAE
  | .a, .h => .ldAH
  | .a, .l => .ldAL
  | .a, .a => .ldAA

/-- `LD r,(HL)` (`01rrr110`, R281). -/
def Instr.ldRegAtHL : Reg → Instr
  | .b => .ldBAtHL
  | .c => .ldCAtHL
  | .d => .ldDAtHL
  | .e => .ldEAtHL
  | .h => .ldHAtHL
  | .l => .ldLAtHL
  | .a => .ldAAtHL

/-- `LD (HL),r` (`01110rrr`, R282). -/
def Instr.ldAtHLReg : Reg → Instr
  | .b => .ldAtHLB
  | .c => .ldAtHLC
  | .d => .ldAtHLD
  | .e => .ldAtHLE
  | .h => .ldAtHLH
  | .l => .ldAtHLL
  | .a => .ldAtHLA

/-- `LD r,n` (`00rrr110`, R283). -/
def Instr.ldRegImm : Reg → Byte → Instr
  | .b, n => .ldBImm n
  | .c, n => .ldCImm n
  | .d, n => .ldDImm n
  | .e, n => .ldEImm n
  | .h, n => .ldHImm n
  | .l, n => .ldLImm n
  | .a, n => .ldAImm n

/-- `INC r` (`00rrr100`, R188). -/
def Instr.incReg : Reg → Instr
  | .b => .incB
  | .c => .incC
  | .d => .incD
  | .e => .incE
  | .h => .incH
  | .l => .incL
  | .a => .incA

/-- `DEC r` (`00rrr101`, R189). -/
def Instr.decReg : Reg → Instr
  | .b => .decB
  | .c => .decC
  | .d => .decD
  | .e => .decE
  | .h => .decH
  | .l => .decL
  | .a => .decA

/-- The accumulator operation `kkk` with a register (`10kkkrrr`, R82). -/
def Instr.aluReg : AluOp → Reg → Instr
  | .add, .b => .addAB
  | .add, .c => .addAC
  | .add, .d => .addAD
  | .add, .e => .addAE
  | .add, .h => .addAH
  | .add, .l => .addAL
  | .add, .a => .addAA
  | .adc, .b => .adcAB
  | .adc, .c => .adcAC
  | .adc, .d => .adcAD
  | .adc, .e => .adcAE
  | .adc, .h => .adcAH
  | .adc, .l => .adcAL
  | .adc, .a => .adcAA
  | .sub, .b => .subB
  | .sub, .c => .subC
  | .sub, .d => .subD
  | .sub, .e => .subE
  | .sub, .h => .subH
  | .sub, .l => .subL
  | .sub, .a => .subA
  | .sbc, .b => .sbcAB
  | .sbc, .c => .sbcAC
  | .sbc, .d => .sbcAD
  | .sbc, .e => .sbcAE
  | .sbc, .h => .sbcAH
  | .sbc, .l => .sbcAL
  | .sbc, .a => .sbcAA
  | .and, .b => .andB
  | .and, .c => .andC
  | .and, .d => .andD
  | .and, .e => .andE
  | .and, .h => .andH
  | .and, .l => .andL
  | .and, .a => .andA
  | .xor, .b => .xorB
  | .xor, .c => .xorC
  | .xor, .d => .xorD
  | .xor, .e => .xorE
  | .xor, .h => .xorH
  | .xor, .l => .xorL
  | .xor, .a => .xorA
  | .or, .b => .orB
  | .or, .c => .orC
  | .or, .d => .orD
  | .or, .e => .orE
  | .or, .h => .orH
  | .or, .l => .orL
  | .or, .a => .orA

/-- The accumulator operation `kkk` with an immediate (`11kkk110`, R82). -/
def Instr.aluImm : AluOp → Byte → Instr
  | .add, n => .addAImm n
  | .adc, n => .adcAImm n
  | .sub, n => .subImm n
  | .sbc, n => .sbcAImm n
  | .and, n => .andImm n
  | .xor, n => .xorImm n
  | .or, n => .orImm n

/-- `INC rr` (`00pp0011`, R210). -/
def Instr.incPair : RegPair → Instr
  | .bc => .incBC
  | .de => .incDE
  | .hl => .incHL
  | .sp => .incSP

/-- `DEC rr` (`00pp1011`, R211). -/
def Instr.decPair : RegPair → Instr
  | .bc => .decBC
  | .de => .decDE
  | .hl => .decHL
  | .sp => .decSP

/-- `ADD HL,rr` (`00pp1001`, R212). -/
def Instr.addHL : RegPair → Instr
  | .bc => .addHLBC
  | .de => .addHLDE
  | .hl => .addHLHL
  | .sp => .addHLSP

/-- `PUSH qq` (`11qq0101`, R322). -/
def Instr.push : StackPair → Instr
  | .bc => .pushBC
  | .de => .pushDE
  | .hl => .pushHL
  | .af => .pushAF

/-- `POP qq` (`11qq0001`, R323). -/
def Instr.pop : StackPair → Instr
  | .bc => .popBC
  | .de => .popDE
  | .hl => .popHL
  | .af => .popAF

/-- `JP cc,nn` (`11ccc010`, R153). -/
def Instr.jpCond : Cond → Word → Instr
  | .nz, nn => .jpNZ nn
  | .z, nn => .jpZ nn
  | .nc, nn => .jpNC nn
  | .c, nn => .jpC nn
  | .po, nn => .jpPO nn
  | .pe, nn => .jpPE nn
  | .p, nn => .jpP nn
  | .m, nn => .jpM nn

/-- `CALL cc,nn` (`11ccc100`, R155). -/
def Instr.callCond : Cond → Word → Instr
  | .nz, nn => .callNZ nn
  | .z, nn => .callZ nn
  | .nc, nn => .callNC nn
  | .c, nn => .callC nn
  | .po, nn => .callPO nn
  | .pe, nn => .callPE nn
  | .p, nn => .callP nn
  | .m, nn => .callM nn

/-- `RET cc` (`11ccc000`, R157). -/
def Instr.retCond : Cond → Instr
  | .nz => .retNZ
  | .z => .retZ
  | .nc => .retNC
  | .c => .retC
  | .po => .retPO
  | .pe => .retPE
  | .p => .retP
  | .m => .retM

/-! ## Decoding -/

/-- What an opcode byte selects: an instruction of the formats F1, F2 or F3 of R82, or nothing (R87). -/
inductive Format where
  | f1 (i : Instr)
  | f2 (mk : Byte → Instr)
  | f3 (mk : Word → Instr)
  | unimplemented

/-- How many immediate bytes follow the opcode byte (R82, R85). -/
def Format.immediates : Format → Option Nat
  | .f1 _ => some 0
  | .f2 _ => some 1
  | .f3 _ => some 2
  | .unimplemented => none

/-- The register of an `r` code; 110 is `(HL)`, no register (R83). -/
def regOfCode : Nat → Option Reg
  | 0 => some .b
  | 1 => some .c
  | 2 => some .d
  | 3 => some .e
  | 4 => some .h
  | 5 => some .l
  | 7 => some .a
  | _ => none

/-- The pair of an `rr` code (R83). -/
def pairOfCode : Nat → RegPair
  | 0 => .bc
  | 1 => .de
  | 2 => .hl
  | _ => .sp

/-- The pair of a `qq` code (R83). -/
def stackPairOfCode : Nat → StackPair
  | 0 => .bc
  | 1 => .de
  | 2 => .hl
  | _ => .af

/-- The condition of a `cc` code (R83). -/
def condOfCode : Nat → Cond
  | 0 => .nz
  | 1 => .z
  | 2 => .nc
  | 3 => .c
  | 4 => .po
  | 5 => .pe
  | 6 => .p
  | _ => .m

/-- The operation of a `kkk` code; 111 (compare) is not implemented (R83). -/
def aluOfCode : Nat → Option AluOp
  | 0 => some .add
  | 1 => some .adc
  | 2 => some .sub
  | 3 => some .sbc
  | 4 => some .and
  | 5 => some .xor
  | 6 => some .or
  | _ => none

/-- The `r` code of a register (R83). -/
def Reg.code : Reg → BitVec 3
  | .b => 0b000
  | .c => 0b001
  | .d => 0b010
  | .e => 0b011
  | .h => 0b100
  | .l => 0b101
  | .a => 0b111

/-- The `rr` code of a pair (R83). -/
def RegPair.code : RegPair → BitVec 2
  | .bc => 0b00
  | .de => 0b01
  | .hl => 0b10
  | .sp => 0b11

/-- The `qq` code of a pair (R83). -/
def StackPair.code : StackPair → BitVec 2
  | .bc => 0b00
  | .de => 0b01
  | .hl => 0b10
  | .af => 0b11

/-- The `cc` code of a condition (R83). -/
def Cond.code : Cond → BitVec 3
  | .nz => 0b000
  | .z => 0b001
  | .nc => 0b010
  | .c => 0b011
  | .po => 0b100
  | .pe => 0b101
  | .p => 0b110
  | .m => 0b111

/-- The `kkk` code of an operation (R83). -/
def AluOp.code : AluOp → BitVec 3
  | .add => 0b000
  | .adc => 0b001
  | .sub => 0b010
  | .sbc => 0b011
  | .and => 0b100
  | .xor => 0b101
  | .or => 0b110

/-- An opcode that exists for a code naming a register. -/
def withReg (code : Nat) (k : Reg → Format) : Format :=
  match regOfCode code with
  | some r => k r
  | none => .unimplemented

/-- An opcode that exists for a code naming an implemented operation. -/
def withAlu (code : Nat) (k : AluOp → Format) : Format :=
  match aluOfCode code with
  | some o => k o
  | none => .unimplemented

/-- Opcodes `00yyyzzz`. -/
def format00 (y z : Nat) : Format :=
  match z, y with
  | 0, 0 => .f1 .nop
  | 0, 1 => .f1 .exAFAF
  | 1, y => if y % 2 = 1 then .f1 (.addHL (pairOfCode (y / 2))) else .unimplemented
  | 2, 4 => .f3 .ldAbsHL
  | 2, 5 => .f3 .ldHLAbs
  | 2, 6 => .f3 .ldAbsA
  | 2, 7 => .f3 .ldAAbs
  | 3, y => .f1 (if y % 2 = 0 then .incPair (pairOfCode (y / 2)) else .decPair (pairOfCode (y / 2)))
  | 4, y => withReg y fun r => .f1 (.incReg r)
  | 5, y => withReg y fun r => .f1 (.decReg r)
  | 6, 6 => .f2 .ldAtHLImm
  | 6, y => withReg y fun r => .f2 (.ldRegImm r)
  | 7, 0 => .f1 .rlca
  | 7, 5 => .f1 .cpl
  | 7, 6 => .f1 .scf
  | 7, 7 => .f1 .ccf
  | _, _ => .unimplemented

/-- Opcodes `01yyyzzz`: the moves, with HALT in the place of a move from `(HL)` to `(HL)`. -/
def format01 (y z : Nat) : Format :=
  match y, z with
  | 6, 6 => .f1 .halt
  | y, 6 => withReg y fun r => .f1 (.ldRegAtHL r)
  | 6, z => withReg z fun r => .f1 (.ldAtHLReg r)
  | y, z => withReg y fun dst => withReg z fun src => .f1 (.ldReg dst src)

/-- Opcodes `10yyyzzz`: the accumulator operations on a register. -/
def format10 (y z : Nat) : Format :=
  withAlu y fun o => withReg z fun r => .f1 (.aluReg o r)

/-- Opcodes `11yyyzzz`. -/
def format11 (y z : Nat) : Format :=
  match z, y with
  | 0, y => .f1 (.retCond (condOfCode y))
  | 1, 1 => .f1 .ret
  | 1, 3 => .f1 .exx
  | 1, y => if y % 2 = 0 then .f1 (.pop (stackPairOfCode (y / 2))) else .unimplemented
  | 2, y => .f3 (.jpCond (condOfCode y))
  | 3, 0 => .f3 .jp
  | 3, 4 => .f1 .exSPHL
  | 3, 5 => .f1 .exDEHL
  | 4, y => .f3 (.callCond (condOfCode y))
  | 5, 1 => .f3 .call
  | 5, y => if y % 2 = 0 then .f1 (.push (stackPairOfCode (y / 2))) else .unimplemented
  | 6, y => withAlu y fun o => .f2 (.aluImm o)
  | _, _ => .unimplemented

/-- `decode(op)` of 40_execution.md R115: total, and a function of the opcode byte alone. -/
def formatOf (op : Byte) : Format :=
  let y := (op.extractLsb' 3 3).toNat
  let z := (op.extractLsb' 0 3).toNat
  match (op.extractLsb' 6 2).toNat with
  | 0 => format00 y z
  | 1 => format01 y z
  | 2 => format10 y z
  | _ => format11 y z

/-- Is the byte one of the 202 implemented opcodes (R86, R87)? -/
def isImplemented (op : Byte) : Bool := (formatOf op).immediates.isSome

/-- Why bytes do not decode. -/
inductive DecodeError where
  | noBytes
  | unimplemented (op : Byte)
  | truncated (op : Byte)
deriving DecidableEq, Repr

/-- The first instruction of a byte sequence and the bytes after it. -/
def decode : List Byte → Except DecodeError (Instr × List Byte)
  | [] => .error .noBytes
  | op :: rest =>
    match formatOf op, rest with
    | .f1 i, rest => .ok (i, rest)
    | .f2 mk, n :: rest => .ok (mk n, rest)
    | .f3 mk, lo :: hi :: rest => .ok (mk (joinBytes hi lo), rest)
    | .unimplemented, _ => .error (.unimplemented op)
    | _, _ => .error (.truncated op)

/-! ## Encoding -/

/-- The bytes of an instruction in address order, opcode values from the map of R86. -/
def encode : Instr → List Byte
  | .nop => [0x00]
  | .incBC => [0x03]
  | .incB => [0x04]
  | .decB => [0x05]
  | .ldBImm n => [0x06, n]
  | .rlca => [0x07]
  | .exAFAF => [0x08]
  | .addHLBC => [0x09]
  | .decBC => [0x0B]
  | .incC => [0x0C]
  | .decC => [0x0D]
  | .ldCImm n => [0x0E, n]
  | .incDE => [0x13]
  | .incD => [0x14]
  | .decD => [0x15]
  | .ldDImm n => [0x16, n]
  | .addHLDE => [0x19]
  | .decDE => [0x1B]
  | .incE => [0x1C]
  | .decE => [0x1D]
  | .ldEImm n => [0x1E, n]
  | .ldAbsHL nn => [0x22, loByte nn, hiByte nn]
  | .incHL => [0x23]
  | .incH => [0x24]
  | .decH => [0x25]
  | .ldHImm n => [0x26, n]
  | .addHLHL => [0x29]
  | .ldHLAbs nn => [0x2A, loByte nn, hiByte nn]
  | .decHL => [0x2B]
  | .incL => [0x2C]
  | .decL => [0x2D]
  | .ldLImm n => [0x2E, n]
  | .cpl => [0x2F]
  | .ldAbsA nn => [0x32, loByte nn, hiByte nn]
  | .incSP => [0x33]
  | .ldAtHLImm n => [0x36, n]
  | .scf => [0x37]
  | .addHLSP => [0x39]
  | .ldAAbs nn => [0x3A, loByte nn, hiByte nn]
  | .decSP => [0x3B]
  | .incA => [0x3C]
  | .decA => [0x3D]
  | .ldAImm n => [0x3E, n]
  | .ccf => [0x3F]
  | .ldBB => [0x40]
  | .ldBC => [0x41]
  | .ldBD => [0x42]
  | .ldBE => [0x43]
  | .ldBH => [0x44]
  | .ldBL => [0x45]
  | .ldBAtHL => [0x46]
  | .ldBA => [0x47]
  | .ldCB => [0x48]
  | .ldCC => [0x49]
  | .ldCD => [0x4A]
  | .ldCE => [0x4B]
  | .ldCH => [0x4C]
  | .ldCL => [0x4D]
  | .ldCAtHL => [0x4E]
  | .ldCA => [0x4F]
  | .ldDB => [0x50]
  | .ldDC => [0x51]
  | .ldDD => [0x52]
  | .ldDE => [0x53]
  | .ldDH => [0x54]
  | .ldDL => [0x55]
  | .ldDAtHL => [0x56]
  | .ldDA => [0x57]
  | .ldEB => [0x58]
  | .ldEC => [0x59]
  | .ldED => [0x5A]
  | .ldEE => [0x5B]
  | .ldEH => [0x5C]
  | .ldEL => [0x5D]
  | .ldEAtHL => [0x5E]
  | .ldEA => [0x5F]
  | .ldHB => [0x60]
  | .ldHC => [0x61]
  | .ldHD => [0x62]
  | .ldHE => [0x63]
  | .ldHH => [0x64]
  | .ldHL => [0x65]
  | .ldHAtHL => [0x66]
  | .ldHA => [0x67]
  | .ldLB => [0x68]
  | .ldLC => [0x69]
  | .ldLD => [0x6A]
  | .ldLE => [0x6B]
  | .ldLH => [0x6C]
  | .ldLL => [0x6D]
  | .ldLAtHL => [0x6E]
  | .ldLA => [0x6F]
  | .ldAtHLB => [0x70]
  | .ldAtHLC => [0x71]
  | .ldAtHLD => [0x72]
  | .ldAtHLE => [0x73]
  | .ldAtHLH => [0x74]
  | .ldAtHLL => [0x75]
  | .halt => [0x76]
  | .ldAtHLA => [0x77]
  | .ldAB => [0x78]
  | .ldAC => [0x79]
  | .ldAD => [0x7A]
  | .ldAE => [0x7B]
  | .ldAH => [0x7C]
  | .ldAL => [0x7D]
  | .ldAAtHL => [0x7E]
  | .ldAA => [0x7F]
  | .addAB => [0x80]
  | .addAC => [0x81]
  | .addAD => [0x82]
  | .addAE => [0x83]
  | .addAH => [0x84]
  | .addAL => [0x85]
  | .addAA => [0x87]
  | .adcAB => [0x88]
  | .adcAC => [0x89]
  | .adcAD => [0x8A]
  | .adcAE => [0x8B]
  | .adcAH => [0x8C]
  | .adcAL => [0x8D]
  | .adcAA => [0x8F]
  | .subB => [0x90]
  | .subC => [0x91]
  | .subD => [0x92]
  | .subE => [0x93]
  | .subH => [0x94]
  | .subL => [0x95]
  | .subA => [0x97]
  | .sbcAB => [0x98]
  | .sbcAC => [0x99]
  | .sbcAD => [0x9A]
  | .sbcAE => [0x9B]
  | .sbcAH => [0x9C]
  | .sbcAL => [0x9D]
  | .sbcAA => [0x9F]
  | .andB => [0xA0]
  | .andC => [0xA1]
  | .andD => [0xA2]
  | .andE => [0xA3]
  | .andH => [0xA4]
  | .andL => [0xA5]
  | .andA => [0xA7]
  | .xorB => [0xA8]
  | .xorC => [0xA9]
  | .xorD => [0xAA]
  | .xorE => [0xAB]
  | .xorH => [0xAC]
  | .xorL => [0xAD]
  | .xorA => [0xAF]
  | .orB => [0xB0]
  | .orC => [0xB1]
  | .orD => [0xB2]
  | .orE => [0xB3]
  | .orH => [0xB4]
  | .orL => [0xB5]
  | .orA => [0xB7]
  | .retNZ => [0xC0]
  | .popBC => [0xC1]
  | .jpNZ nn => [0xC2, loByte nn, hiByte nn]
  | .jp nn => [0xC3, loByte nn, hiByte nn]
  | .callNZ nn => [0xC4, loByte nn, hiByte nn]
  | .pushBC => [0xC5]
  | .addAImm n => [0xC6, n]
  | .retZ => [0xC8]
  | .ret => [0xC9]
  | .jpZ nn => [0xCA, loByte nn, hiByte nn]
  | .callZ nn => [0xCC, loByte nn, hiByte nn]
  | .call nn => [0xCD, loByte nn, hiByte nn]
  | .adcAImm n => [0xCE, n]
  | .retNC => [0xD0]
  | .popDE => [0xD1]
  | .jpNC nn => [0xD2, loByte nn, hiByte nn]
  | .callNC nn => [0xD4, loByte nn, hiByte nn]
  | .pushDE => [0xD5]
  | .subImm n => [0xD6, n]
  | .retC => [0xD8]
  | .exx => [0xD9]
  | .jpC nn => [0xDA, loByte nn, hiByte nn]
  | .callC nn => [0xDC, loByte nn, hiByte nn]
  | .sbcAImm n => [0xDE, n]
  | .retPO => [0xE0]
  | .popHL => [0xE1]
  | .jpPO nn => [0xE2, loByte nn, hiByte nn]
  | .exSPHL => [0xE3]
  | .callPO nn => [0xE4, loByte nn, hiByte nn]
  | .pushHL => [0xE5]
  | .andImm n => [0xE6, n]
  | .retPE => [0xE8]
  | .jpPE nn => [0xEA, loByte nn, hiByte nn]
  | .exDEHL => [0xEB]
  | .callPE nn => [0xEC, loByte nn, hiByte nn]
  | .xorImm n => [0xEE, n]
  | .retP => [0xF0]
  | .popAF => [0xF1]
  | .jpP nn => [0xF2, loByte nn, hiByte nn]
  | .callP nn => [0xF4, loByte nn, hiByte nn]
  | .pushAF => [0xF5]
  | .orImm n => [0xF6, n]
  | .retM => [0xF8]
  | .jpM nn => [0xFA, loByte nn, hiByte nn]
  | .callM nn => [0xFC, loByte nn, hiByte nn]

/-! ## The bytes of a row of the opcode table -/

/-- The three bytes of an instruction whose bits, below `nbits`, are those of `w`; the higher ones are 0. -/
def tableBytes (nbits w : Nat) : List Byte :=
  let v := w % 2 ^ nbits
  [BitVec.ofNat 8 v, BitVec.ofNat 8 (v / 2 ^ 8), BitVec.ofNat 8 (v / 2 ^ 16)]

/-- The instruction the decoder reads from a row's bits. -/
def decodeTableWord (nbits w : Nat) : Option Instr :=
  match decode (tableBytes nbits w) with
  | .ok (i, _) => some i
  | .error _ => none

end Sys2Proof
end

