-- ==== Sys2Proof/Config.lean ====
section
/-! DEFINITION. What the implementation fixes or the spec leaves as a parameter (00_scope.md R5). -/

namespace Sys2Proof

/-- The size of the one address space, in bytes (20_memory.md R50). -/
def Config.addressSpace : Nat := 65536

/-- What a memory byte reads as that nothing has written. The spec gives no contents at creation
(10_state.md R38, POWER_ON_STATE). DESIGN CHOICE, unsafe: log entry 2. -/
def Config.unwrittenByte : Byte := 0x00

/-- Which path an instruction took: the two paths of JP cc, CALL cc and RET cc, or the only one of the others
(70_reset_and_hazards.md R379). -/
inductive Path where
  | only | taken | notTaken
deriving DecidableEq, Repr

/-- A value of the parameter `CYCLE_COST` (70_reset_and_hazards.md R380). -/
abbrev CycleCost := Instr → Path → Nat

end Sys2Proof
end

