-- ==== Sys2Proof/Machine/State.lean ====
section
/-! DEFINITION. The state of the machine (10_state.md), its value at creation (R38, R370), and the reasons a step
can stop. -/

namespace Sys2Proof.Machine

/-- The memory's bytes by address, addresses rising, no entry equal to what an unlisted address reads as. -/
abbrev Memory := List Host.Cell

/-- The canonical form of a memory: equal contents are equal lists, and every address exists (20_memory.md R50). -/
def Memory.wf (m : Memory) : Bool :=
  decide (List.Pairwise (fun x y => x.1 < y.1) m) &&
    m.all fun x => decide (x.1 < Config.addressSpace) && x.2 != Config.unwrittenByte

/-- One register set (10_state.md R20, R22); the shadow set is identical to the main one (R23, R24). -/
structure RegSet where
  a : Byte
  f : Byte
  b : Byte
  c : Byte
  d : Byte
  e : Byte
  h : Byte
  l : Byte
  sp : Word
deriving DecidableEq, Repr

/-- The processor's two states (10_state.md R32). -/
inductive Mode where
  | halted | running
deriving DecidableEq, Repr

/-- `decode_failure(addr, byte)` (10_state.md R33). -/
structure DecodeFailure where
  addr : Word
  byte : Byte
deriving DecidableEq, Repr

/-- One call of the cycle hook, `cost(ins, path)`, by its arguments (70_reset_and_hazards.md R379; log entry 6). -/
structure CycleEvent where
  instr : Instr
  path : Path
deriving DecidableEq, Repr

/-- The whole state of the machine. -/
structure State where
  /-- The main register set (R20, R22, R25). -/
  main : RegSet
  /-- The shadow register set (R23, R24). -/
  shadow : RegSet
  /-- The program counter (R31). -/
  pc : Word
  /-- Running or Halted (R32). -/
  mode : Mode
  /-- The fault record (R33). -/
  fault : Option DecodeFailure
  /-- The latch a fetch past 0xFFFF sets (R34). -/
  pcOverflowed : Bool
  /-- The 65,536 bytes of memory (20_memory.md R50). -/
  mem : Memory
  /-- The cycle outputs so far, newest first (R379; log entry 6). -/
  cycleEvents : List CycleEvent
deriving DecidableEq, Repr

def State.setMain (s : State) (v : RegSet) : State := { s with main := v }
def State.setShadow (s : State) (v : RegSet) : State := { s with shadow := v }
def State.setPc (s : State) (v : Word) : State := { s with pc := v }
def State.setMode (s : State) (v : Mode) : State := { s with mode := v }
def State.setFault (s : State) (v : Option DecodeFailure) : State := { s with fault := v }
def State.setPcOverflowed (s : State) (v : Bool) : State := { s with pcOverflowed := v }
def State.setMem (s : State) (v : Memory) : State := { s with mem := v }
def State.setCycleEvents (s : State) (v : List CycleEvent) : State := { s with cycleEvents := v }

/-- The reasons a step stops the machine with a fault: none. No implemented instruction raises anything
(60_exceptions.md R342), no access fails (20_memory.md R57), and the decode failure is a next state that holds
its record (R341; log entry 4). Nobody raises a fault, which is safe. -/
inductive Fault where
deriving DecidableEq, Repr

/-- The reasons a step has no meaning. -/
inductive Refusal where
  /-- Raised by `exec` for an instruction that has no meaning yet; no arm does. Safe. -/
  | notModelled (mnemonic : String)
deriving DecidableEq, Repr

/-- What a meaning answers. -/
abbrev Result := Host.Outcome State Fault Refusal

/-- A value of the parameter `POWER_ON_STATE` (10_state.md R38): what the spec leaves unspecified at creation. -/
structure PowerOn where
  main : RegSet
  shadow : RegSet
  pc : Word
  mem : Memory
deriving DecidableEq, Repr

/-- A machine at creation (70_reset_and_hazards.md R370): Halted, no fault, latch clear, the rest from
`POWER_ON_STATE`; no instruction has executed, so there is no cycle output. -/
def State.create (p : PowerOn) : State :=
  { main := p.main, shadow := p.shadow, pc := p.pc, mode := .halted, fault := none,
    pcOverflowed := false, mem := p.mem, cycleEvents := [] }

/-- The register set of zeros. DESIGN CHOICE, unsafe: log entry 1. -/
def RegSet.zero : RegSet :=
  { a := 0, f := 0, b := 0, c := 0, d := 0, e := 0, h := 0, l := 0, sp := 0 }

/-- The power-on state the model names: zeros and nothing in memory. DESIGN CHOICE, unsafe: log entries 1 and 2. -/
def PowerOn.zero : PowerOn := { main := RegSet.zero, shadow := RegSet.zero, pc := 0, mem := [] }

/-- The machine right after reset, which is its creation (R370). -/
def State.reset : State := State.create PowerOn.zero

end Sys2Proof.Machine
end

