-- ==== Sys2Proof/Machine/Ops.lean ====
section
/-! DEFINITION. Memory access (20_memory.md R51 to R54), fetching (40_execution.md R110 to R112), the stack
primitives (48_stack.md R320, R321), the decode failure (60_exceptions.md R341) and the end of a step
(R110, R114). -/

namespace Sys2Proof.Machine

/-! ## The memory list -/

/-- The byte at an address. -/
def Memory.read (m : Memory) (a : Nat) : Byte :=
  match m with
  | [] => Config.unwrittenByte
  | (k, v) :: m => if k = a then v else Memory.read m a

/-- The memory without an entry for an address. -/
def Memory.dropCell (m : Memory) (a : Nat) : Memory := m.filter fun x => x.1 != a

/-- The memory with an entry put before the first greater address. -/
def Memory.putCell (m : Memory) (a : Nat) (v : Byte) : Memory :=
  match m with
  | [] => [(a, v)]
  | (k, w) :: m => if a < k then (a, v) :: (k, w) :: m else (k, w) :: Memory.putCell m a v

/-- Writing a byte; writing what an unlisted address reads as leaves no entry. -/
def Memory.write (m : Memory) (a : Nat) (v : Byte) : Memory :=
  if v = Config.unwrittenByte then m.dropCell a else (m.dropCell a).putCell a v

/-! ## Access by the machine: addresses are words, so they are taken modulo 2^16 (R50) -/

/-- `MemRead(addr, 1)` (R51). -/
def memRead (a : Word) (s : State) : Byte := s.mem.read a.toNat

/-- `MemRead(addr, 2)`: low byte at the address, high byte at the next (R52). -/
def memReadWord (a : Word) (s : State) : Word := joinBytes (memRead (a + 1) s) (memRead a s)

/-- `MemWrite(addr, 1, v)` (R53). -/
def memWrite (a : Word) (v : Byte) (s : State) : State := s.setMem (s.mem.write a.toNat v)

/-- `MemWrite(addr, 2, v)` (R54). -/
def memWriteWord (a : Word) (v : Word) (s : State) : State :=
  memWrite (a + 1) (hiByte v) (memWrite a (loByte v) s)

/-! ## Fetching -/

/-- `FetchByte()` (R111): the byte at `pc`, and `pc` advanced; past 0xFFFF the latch is set. -/
def fetchByte (s : State) : Byte × State :=
  (memRead s.pc s,
    if s.pc = 0xFFFF then (s.setPc 0x0000).setPcOverflowed true else s.setPc (s.pc + 1))

/-- `FetchWord()` (R112): low byte first. -/
def fetchWord (s : State) : Word × State :=
  let (lo, s₁) := fetchByte s
  let (hi, s₂) := fetchByte s₁
  (joinBytes hi lo, s₂)

/-- What a fetch ends in: an instruction, every byte of it fetched, or an unimplemented opcode byte. -/
inductive Fetched where
  | instr (i : Instr) (s : State)
  | failed (addr : Word) (op : Byte) (s : State)

/-- The fetch of an instruction (R110): its opcode byte, then its immediates, before any data access. -/
def fetchInstr (s : State) : Fetched :=
  let (op, s₁) := fetchByte s
  match formatOf op with
  | .f1 i => .instr i s₁
  | .f2 mk => let (n, s₂) := fetchByte s₁; .instr (mk n) s₂
  | .f3 mk => let (nn, s₂) := fetchWord s₁; .instr (mk nn) s₂
  | .unimplemented => .failed s.pc op s₁

/-! ## The decode failure: the one exceptional event of a step (R340, R347) -/

/-- `raise DecodeFailure(addr, op)` (R341). -/
def raiseDecodeFailure (addr : Word) (op : Byte) (s : State) : State :=
  ((s.setFault (some { addr := addr, byte := op })).setMode .halted).setPcOverflowed false

/-! ## The stack pointer and the stack -/

/-- `SP <- v` (00_scope.md R7). -/
def writeSP (v : Word) (s : State) : State := s.setMain { s.main with sp := v }

/-- `Push16(v)` (R320): the high byte at SP-1, the low byte at SP-2. -/
def push16 (v : Word) (s : State) : State :=
  writeSP (s.main.sp - 2) (memWrite (s.main.sp - 2) (loByte v) (memWrite (s.main.sp - 1) (hiByte v) s))

/-- `Pop16()` (R321). -/
def pop16 (s : State) : Word × State :=
  (joinBytes (memRead (s.main.sp + 1) s) (memRead s.main.sp s), writeSP (s.main.sp + 2) s)

/-! ## The end of a step -/

/-- `EmitCycles(cost(ins, path))`, as one event (R379; log entry 6). -/
def emitCycles (i : Instr) (p : Path) (s : State) : State :=
  s.setCycleEvents ({ instr := i, path := p } :: s.cycleEvents)

/-- The overflow halt at the end of a step (R114). -/
def overflowHalt (s : State) : State :=
  if s.pcOverflowed then (s.setMode .halted).setPcOverflowed false else s

/-- What a step does after an instruction's effects (R110): the cycle output, then the overflow halt. -/
def endStep (i : Instr) (p : Path) (s : State) : State := overflowHalt (emitCycles i p s)

end Sys2Proof.Machine
end

