-- ==== Sys2Proof/Machine/Operands.lean ====
section
/-! DEFINITION. Operand access (00_scope.md R7, 10_state.md R20, R21): registers, pairs and F of the main set. The
addresses of the forms `(HL)`, `(SP)` and `(nn)` are the word HL, the word SP and the immediate. -/

namespace Sys2Proof.Machine

/-- A register of a set. -/
def RegSet.get (m : RegSet) : Reg → Byte
  | .a => m.a
  | .b => m.b
  | .c => m.c
  | .d => m.d
  | .e => m.e
  | .h => m.h
  | .l => m.l

/-- A set with one register written. -/
def RegSet.set (m : RegSet) (r : Reg) (v : Byte) : RegSet :=
  match r with
  | .a => { m with a := v }
  | .b => { m with b := v }
  | .c => { m with c := v }
  | .d => { m with d := v }
  | .e => { m with e := v }
  | .h => { m with h := v }
  | .l => { m with l := v }

/-- `x[r]`. -/
def readReg (r : Reg) (s : State) : Byte := s.main.get r

/-- `x[r] <- v`. -/
def writeReg (r : Reg) (v : Byte) (s : State) : State := s.setMain (s.main.set r v)

/-- `x[F] <- v`, all eight bits. -/
def writeF (v : Byte) (s : State) : State := s.setMain { s.main with f := v }

/-- `x[rr]`: the first-named register is the high byte. -/
def readPair (p : RegPair) (s : State) : Word :=
  match p with
  | .bc => joinBytes s.main.b s.main.c
  | .de => joinBytes s.main.d s.main.e
  | .hl => joinBytes s.main.h s.main.l
  | .sp => s.main.sp

/-- `x[rr] <- v`. -/
def writePair (p : RegPair) (v : Word) (s : State) : State :=
  match p with
  | .bc => s.setMain { s.main with b := hiByte v, c := loByte v }
  | .de => s.setMain { s.main with d := hiByte v, e := loByte v }
  | .hl => s.setMain { s.main with h := hiByte v, l := loByte v }
  | .sp => writeSP v s

/-- `x[qq]`; AF has A high and F low (R21). -/
def readStackPair (p : StackPair) (s : State) : Word :=
  match p with
  | .bc => readPair .bc s
  | .de => readPair .de s
  | .hl => readPair .hl s
  | .af => joinBytes s.main.a s.main.f

/-- `x[qq] <- v`. -/
def writeStackPair (p : StackPair) (v : Word) (s : State) : State :=
  match p with
  | .bc => writePair .bc v s
  | .de => writePair .de v s
  | .hl => writePair .hl v s
  | .af => s.setMain { s.main with a := hiByte v, f := loByte v }

end Sys2Proof.Machine
end

