-- ==== Sys2Proof/Machine/Flags.lean ====
section
/-! DEFINITION. The flags of F (10_state.md R26 to R28), parity and the conditions (41_alu.md R138, R140). -/

namespace Sys2Proof.Machine

/-- The six flags an instruction can compute; the two reserved bits of F are none of them (R26, R27). -/
inductive Flag where
  | s | z | h | pv | n | c
deriving DecidableEq, Repr

/-- A flag's bit of F (R26). -/
def Flag.bit : Flag → Nat
  | .s => 7
  | .z => 6
  | .h => 4
  | .pv => 2
  | .n => 1
  | .c => 0

/-- A flag of a status byte. -/
def getFlag (x : Flag) (f : Byte) : Bool := f.getLsbD x.bit

/-- A status byte with one flag written. -/
def setFlag (x : Flag) (v : Bool) (f : Byte) : Byte :=
  if v then f ||| BitVec.twoPow 8 x.bit else f &&& ~~~(BitVec.twoPow 8 x.bit)

/-- `F.x`. -/
def flag (x : Flag) (s : State) : Bool := getFlag x s.main.f

/-- The selective update of a status byte (R28): each listed flag in the affected set is written, in order. -/
def applyFlags (affected : List Flag) (values : List (Flag × Bool)) (f : Byte) : Byte :=
  match values with
  | [] => f
  | (x, v) :: values => applyFlags affected values (if x ∈ affected then setFlag x v f else f)

/-- `ApplyFlags(S, values)` on the machine (R28). -/
def updateFlags (affected : List Flag) (values : List (Flag × Bool)) (s : State) : State :=
  writeF (applyFlags affected values s.main.f) s

/-- `popcount(v)` (00_scope.md R6). -/
def popcount (v : Byte) : Nat := ((List.range 8).filter fun i => v.getLsbD i).length

/-- `parity(v)`: true for an even number of one bits (R138). -/
def parity (v : Byte) : Bool := popcount v % 2 == 0

/-- The condition predicates (R140). -/
def holds (cc : Cond) (s : State) : Bool :=
  match cc with
  | .nz => !flag .z s
  | .z => flag .z s
  | .nc => !flag .c s
  | .c => flag .c s
  | .po => !flag .pv s
  | .pe => flag .pv s
  | .p => !flag .s s
  | .m => flag .s s

end Sys2Proof.Machine
end

