-- ==== Sys2Proof/Machine/Cycles.lean ====
section
/-! DEFINITION. The path an instruction takes and the default of the parameter `CYCLE_COST`
(70_reset_and_hazards.md R379, R380). No other part of the model reads a cost. -/

namespace Sys2Proof.Machine

/-- The condition of a conditional instruction (JP cc, CALL cc, RET cc). -/
def conditionOf : Instr → Option Cond
  | .retNZ | .jpNZ _ | .callNZ _ => some .nz
  | .retZ | .jpZ _ | .callZ _ => some .z
  | .retNC | .jpNC _ | .callNC _ => some .nc
  | .retC | .jpC _ | .callC _ => some .c
  | .retPO | .jpPO _ | .callPO _ => some .po
  | .retPE | .jpPE _ | .callPE _ => some .pe
  | .retP | .jpP _ | .callP _ => some .p
  | .retM | .jpM _ | .callM _ => some .m
  | .nop | .incBC | .incB | .decB | .ldBImm _ | .rlca | .exAFAF | .addHLBC
  | .decBC | .incC | .decC | .ldCImm _ | .incDE | .incD | .decD | .ldDImm _
  | .addHLDE | .decDE | .incE | .decE | .ldEImm _ | .ldAbsHL _ | .incHL | .incH
  | .decH | .ldHImm _ | .addHLHL | .ldHLAbs _ | .decHL | .incL | .decL | .ldLImm _
  | .cpl | .ldAbsA _ | .incSP | .ldAtHLImm _ | .scf | .addHLSP | .ldAAbs _ | .decSP
  | .incA | .decA | .ldAImm _ | .ccf | .ldBB | .ldBC | .ldBD | .ldBE
  | .ldBH | .ldBL | .ldBAtHL | .ldBA | .ldCB | .ldCC | .ldCD | .ldCE
  | .ldCH | .ldCL | .ldCAtHL | .ldCA | .ldDB | .ldDC | .ldDD | .ldDE
  | .ldDH | .ldDL | .ldDAtHL | .ldDA | .ldEB | .ldEC | .ldED | .ldEE
  | .ldEH | .ldEL | .ldEAtHL | .ldEA | .ldHB | .ldHC | .ldHD | .ldHE
  | .ldHH | .ldHL | .ldHAtHL | .ldHA | .ldLB | .ldLC | .ldLD | .ldLE
  | .ldLH | .ldLL | .ldLAtHL | .ldLA | .ldAtHLB | .ldAtHLC | .ldAtHLD | .ldAtHLE
  | .ldAtHLH | .ldAtHLL | .halt | .ldAtHLA | .ldAB | .ldAC | .ldAD | .ldAE
  | .ldAH | .ldAL | .ldAAtHL | .ldAA | .addAB | .addAC | .addAD | .addAE
  | .addAH | .addAL | .addAA | .adcAB | .adcAC | .adcAD | .adcAE | .adcAH
  | .adcAL | .adcAA | .subB | .subC | .subD | .subE | .subH | .subL
  | .subA | .sbcAB | .sbcAC | .sbcAD | .sbcAE | .sbcAH | .sbcAL | .sbcAA
  | .andB | .andC | .andD | .andE | .andH | .andL | .andA | .xorB
  | .xorC | .xorD | .xorE | .xorH | .xorL | .xorA | .orB | .orC
  | .orD | .orE | .orH | .orL | .orA | .popBC | .jp _ | .pushBC
  | .addAImm _ | .ret | .call _ | .adcAImm _ | .popDE | .pushDE | .subImm _ | .exx
  | .sbcAImm _ | .popHL | .exSPHL | .pushHL | .andImm _ | .exDEHL | .xorImm _ | .popAF
  | .pushAF | .orImm _ => none

/-- The path an instruction takes from the state it executes in (R379). -/
def pathOf (i : Instr) (s : State) : Path :=
  match conditionOf i with
  | none => .only
  | some cc => if holds cc s then .taken else .notTaken

/-- The cost of a conditional instruction by its path. -/
def byPath (taken notTaken : Nat) : Path → Nat
  | .taken => taken
  | .notTaken => notTaken
  | .only => taken

/-- The table of R380: the default of `CYCLE_COST`. PRESUMED by the spec from the Z80 (log entry 7). -/
def defaultCycleCost : CycleCost
  | .nop | .incB | .decB | .rlca | .exAFAF | .incC | .decC | .incD
  | .decD | .incE | .decE | .incH | .decH | .incL | .decL | .cpl
  | .scf | .incA | .decA | .ccf | .ldBB | .ldBC | .ldBD | .ldBE
  | .ldBH | .ldBL | .ldBA | .ldCB | .ldCC | .ldCD | .ldCE | .ldCH
  | .ldCL | .ldCA | .ldDB | .ldDC | .ldDD | .ldDE | .ldDH | .ldDL
  | .ldDA | .ldEB | .ldEC | .ldED | .ldEE | .ldEH | .ldEL | .ldEA
  | .ldHB | .ldHC | .ldHD | .ldHE | .ldHH | .ldHL | .ldHA | .ldLB
  | .ldLC | .ldLD | .ldLE | .ldLH | .ldLL | .ldLA | .halt | .ldAB
  | .ldAC | .ldAD | .ldAE | .ldAH | .ldAL | .ldAA | .addAB | .addAC
  | .addAD | .addAE | .addAH | .addAL | .addAA | .adcAB | .adcAC | .adcAD
  | .adcAE | .adcAH | .adcAL | .adcAA | .subB | .subC | .subD | .subE
  | .subH | .subL | .subA | .sbcAB | .sbcAC | .sbcAD | .sbcAE | .sbcAH
  | .sbcAL | .sbcAA | .andB | .andC | .andD | .andE | .andH | .andL
  | .andA | .xorB | .xorC | .xorD | .xorE | .xorH | .xorL | .xorA
  | .orB | .orC | .orD | .orE | .orH | .orL | .orA | .exx
  | .exDEHL => fun _ => 4
  | .incBC | .decBC | .incDE | .decDE | .incHL | .decHL | .incSP | .decSP => fun _ => 6
  | .ldBImm _ | .ldCImm _ | .ldDImm _ | .ldEImm _ | .ldHImm _ | .ldLImm _ | .ldAImm _ | .ldBAtHL
  | .ldCAtHL | .ldDAtHL | .ldEAtHL | .ldHAtHL | .ldLAtHL | .ldAtHLB | .ldAtHLC | .ldAtHLD
  | .ldAtHLE | .ldAtHLH | .ldAtHLL | .ldAtHLA | .ldAAtHL | .addAImm _ | .adcAImm _ | .subImm _
  | .sbcAImm _ | .andImm _ | .xorImm _ | .orImm _ => fun _ => 7
  | .ldAtHLImm _ | .popBC | .jp _ | .ret | .popDE | .popHL | .popAF => fun _ => 10
  | .jpNZ _ | .jpZ _ | .jpNC _ | .jpC _ | .jpPO _ | .jpPE _ | .jpP _ | .jpM _ => byPath 10 10
  | .addHLBC | .addHLDE | .addHLHL | .addHLSP | .pushBC | .pushDE | .pushHL | .pushAF => fun _ => 11
  | .retNZ | .retZ | .retNC | .retC | .retPO | .retPE | .retP | .retM => byPath 11 5
  | .ldAbsA _ | .ldAAbs _ => fun _ => 13
  | .ldAbsHL _ | .ldHLAbs _ => fun _ => 16
  | .call _ => fun _ => 17
  | .callNZ _ | .callZ _ | .callNC _ | .callC _ | .callPO _ | .callPE _ | .callP _ | .callM _ => byPath 17 10
  | .exSPHL => fun _ => 19

/-- The values the cycle hook has been given, oldest first, for a cycle-cost table (R379). -/
def State.cycleOutputs (cost : CycleCost) (s : State) : List Nat :=
  (s.cycleEvents.map fun e => cost e.instr e.path).reverse

end Sys2Proof.Machine
end

