-- ==== Sys2Proof/Machine/Alu.lean ====
section
/-! DEFINITION. The ALU (41_alu.md): the two adders, every arithmetic instruction as a call of one of them
(R130 to R137), and the logical operations (R139, 45_bitwise.md R230). -/

namespace Sys2Proof.Machine

/-- What an adder answers, at the width `w`. -/
structure Sum (w : Nat) where
  result : BitVec w
  carry : Bool
  halfCarry : Bool
  overflow : Bool
deriving DecidableEq, Repr

/-- `negate8(b)` (R130). -/
def negate8 (b : Byte) : Byte := ~~~b + 1

/-- `negate16(b)` (R133). -/
def negate16 (b : Word) : Word := ~~~b + 1

/-- `add_octets(a, b)` (R131). -/
def addOctets (a b : Byte) : Sum 8 :=
  let result := BitVec.ofNat 8 (a.toNat + b.toNat)
  { result := result
    carry := decide (a.toNat + b.toNat > 255)
    halfCarry := decide (a.toNat % 16 + b.toNat % 16 > 15)
    overflow := a.msb == b.msb && result.msb != a.msb }

/-- `add_words(a, b)` (R132): the half-carry is the carry out of the low byte. -/
def addWords (a b : Word) : Sum 16 :=
  let result := BitVec.ofNat 16 (a.toNat + b.toNat)
  { result := result
    carry := decide (a.toNat + b.toNat > 65535)
    halfCarry := decide (a.toNat % 256 + b.toNat % 256 > 255)
    overflow := a.msb == b.msb && result.msb != a.msb }

/-- The byte-width arithmetic operations (R134). -/
inductive ArithOp where
  | add | adc | sub | sbc | inc | dec
deriving DecidableEq, Repr

/-- The operand with the carry folded in, modulo 256 (R134, 92_eei_decisions.md D9). -/
def withCarry (b : Byte) (c : Bool) : Byte := b + (if c then 1 else 0)

/-- The second operand passed to the adder (R134): `b` is the source, `c` is F.C before any write. -/
def secondOperand (op : ArithOp) (b : Byte) (c : Bool) : Byte :=
  match op with
  | .add => b
  | .adc => withCarry b c
  | .sub => negate8 b
  | .sbc => negate8 (withCarry b c)
  | .inc => 1
  | .dec => negate8 1

/-- The value an operation writes to F.N (R29, R134). -/
def isSubtraction : ArithOp → Bool
  | .add => false
  | .adc => false
  | .sub => true
  | .sbc => true
  | .inc => false
  | .dec => true

/-- `operate_on_register(op, target, operand, S)` (R135). -/
def operateOnRegister (op : ArithOp) (target : Reg) (b : Byte) (affected : List Flag) (s : State) : State :=
  let r := addOctets (readReg target s) (secondOperand op b (flag .c s))
  updateFlags affected
    [(.c, r.carry), (.n, isSubtraction op), (.pv, r.overflow), (.h, r.halfCarry),
      (.z, r.result == 0), (.s, r.result.msb)]
    (writeReg target r.result s)

/-- The affected set `ARITH8` of ADD, ADC, SUB and SBC (43_arith8.md). -/
def arith8Flags : List Flag := [.s, .z, .h, .pv, .n, .c]

/-- The affected set `INCDEC` of INC r and DEC r (43_arith8.md): no C. -/
def incDecFlags : List Flag := [.s, .z, .h, .pv, .n]

/-- The word-width operations (R137). -/
inductive PairOp where
  | inc | dec | add
deriving DecidableEq, Repr

/-- `operate_on_register_pair(op, target_pair, operand_pair, S)` (R137), with the operand pair's value. -/
def operateOnRegisterPair (op : PairOp) (target : RegPair) (w : Word) (affected : List Flag) (s : State) :
    State :=
  let second : Word := match op with
    | .inc => 1
    | .dec => negate16 1
    | .add => w
  let r := addWords (readPair target s) second
  updateFlags affected [(.c, r.carry), (.n, false), (.h, r.halfCarry)] (writePair target r.result s)

/-- The affected set of ADD HL,rr, RLCA, SCF and CCF (R212, R237 to R239). -/
def carryFlags : List Flag := [.c, .h, .n]

/-- The logical operations (R139). -/
inductive LogicOp where
  | and | or | xor
deriving DecidableEq, Repr

/-- The result of a logical operation (R139). -/
def logicResult (op : LogicOp) (a b : Byte) : Byte :=
  match op with
  | .and => a &&& b
  | .or => a ||| b
  | .xor => a ^^^ b

/-- The fixed half-carry of a logical operation (R230). -/
def logicHalfCarry : LogicOp → Bool
  | .and => true
  | .or => false
  | .xor => false

/-- The affected set `LOGIC` (R230). -/
def logicFlags : List Flag := [.s, .z, .h, .pv, .n, .c]

/-- A logical operation on the accumulator (R230 to R236). -/
def operateLogic (op : LogicOp) (b : Byte) (s : State) : State :=
  let res := logicResult op (readReg .a s) b
  updateFlags logicFlags
    [(.c, false), (.n, false), (.pv, parity res), (.h, logicHalfCarry op), (.z, res == 0), (.s, res.msb)]
    (writeReg .a res s)

end Sys2Proof.Machine
end

