-- ==== Sys2Proof/Machine/Arith16.lean ====
section
/-! DEFINITION. The 16-bit arithmetic instructions (44_arith16.md R210 to R212). -/

namespace Sys2Proof.Machine

/-- INC rr (R210): no flag. -/
def incPair (p : RegPair) (s : State) : State := operateOnRegisterPair .inc p 1 [] s

/-- DEC rr (R211): no flag. -/
def decPair (p : RegPair) (s : State) : State := operateOnRegisterPair .dec p 1 [] s

/-- ADD HL,rr (R212). -/
def addToHL (p : RegPair) (s : State) : State :=
  operateOnRegisterPair .add .hl (readPair p s) carryFlags s

/-- `INC BC` (R210). -/
def execIncBC (s : State) : Result := .next (incPair .bc s)
/-- `ADD HL,BC` (R212). -/
def execAddHLBC (s : State) : Result := .next (addToHL .bc s)
/-- `DEC BC` (R211). -/
def execDecBC (s : State) : Result := .next (decPair .bc s)
/-- `INC DE` (R210). -/
def execIncDE (s : State) : Result := .next (incPair .de s)
/-- `ADD HL,DE` (R212). -/
def execAddHLDE (s : State) : Result := .next (addToHL .de s)
/-- `DEC DE` (R211). -/
def execDecDE (s : State) : Result := .next (decPair .de s)
/-- `INC HL` (R210). -/
def execIncHL (s : State) : Result := .next (incPair .hl s)
/-- `ADD HL,HL` (R212). -/
def execAddHLHL (s : State) : Result := .next (addToHL .hl s)
/-- `DEC HL` (R211). -/
def execDecHL (s : State) : Result := .next (decPair .hl s)
/-- `INC SP` (R210). -/
def execIncSP (s : State) : Result := .next (incPair .sp s)
/-- `ADD HL,SP` (R212). -/
def execAddHLSP (s : State) : Result := .next (addToHL .sp s)
/-- `DEC SP` (R211). -/
def execDecSP (s : State) : Result := .next (decPair .sp s)

end Sys2Proof.Machine
end

