-- ==== Sys2Proof/Machine/Arith8.lean ====
section
/-! DEFINITION. The 8-bit arithmetic instructions (43_arith8.md R180 to R189). -/

namespace Sys2Proof.Machine

/-- ADD, ADC, SUB, SBC of A and a register (R180, R182, R184, R186). -/
def arithReg (op : ArithOp) (r : Reg) (s : State) : State :=
  operateOnRegister op .a (readReg r s) arith8Flags s

/-- ADD, ADC, SUB, SBC of A and an immediate (R181, R183, R185, R187). -/
def arithImm (op : ArithOp) (n : Byte) (s : State) : State := operateOnRegister op .a n arith8Flags s

/-- INC r (R188). -/
def incRegister (r : Reg) (s : State) : State := operateOnRegister .inc r 1 incDecFlags s

/-- DEC r (R189). -/
def decRegister (r : Reg) (s : State) : State := operateOnRegister .dec r 1 incDecFlags s

/-- `INC B` (R188). -/
def execIncB (s : State) : Result := .next (incRegister .b s)
/-- `DEC B` (R189). -/
def execDecB (s : State) : Result := .next (decRegister .b s)
/-- `INC C` (R188). -/
def execIncC (s : State) : Result := .next (incRegister .c s)
/-- `DEC C` (R189). -/
def execDecC (s : State) : Result := .next (decRegister .c s)
/-- `INC D` (R188). -/
def execIncD (s : State) : Result := .next (incRegister .d s)
/-- `DEC D` (R189). -/
def execDecD (s : State) : Result := .next (decRegister .d s)
/-- `INC E` (R188). -/
def execIncE (s : State) : Result := .next (incRegister .e s)
/-- `DEC E` (R189). -/
def execDecE (s : State) : Result := .next (decRegister .e s)
/-- `INC H` (R188). -/
def execIncH (s : State) : Result := .next (incRegister .h s)
/-- `DEC H` (R189). -/
def execDecH (s : State) : Result := .next (decRegister .h s)
/-- `INC L` (R188). -/
def execIncL (s : State) : Result := .next (incRegister .l s)
/-- `DEC L` (R189). -/
def execDecL (s : State) : Result := .next (decRegister .l s)
/-- `INC A` (R188). -/
def execIncA (s : State) : Result := .next (incRegister .a s)
/-- `DEC A` (R189). -/
def execDecA (s : State) : Result := .next (decRegister .a s)
/-- `ADD A,B` (R180). -/
def execAddAB (s : State) : Result := .next (arithReg .add .b s)
/-- `ADD A,C` (R180). -/
def execAddAC (s : State) : Result := .next (arithReg .add .c s)
/-- `ADD A,D` (R180). -/
def execAddAD (s : State) : Result := .next (arithReg .add .d s)
/-- `ADD A,E` (R180). -/
def execAddAE (s : State) : Result := .next (arithReg .add .e s)
/-- `ADD A,H` (R180). -/
def execAddAH (s : State) : Result := .next (arithReg .add .h s)
/-- `ADD A,L` (R180). -/
def execAddAL (s : State) : Result := .next (arithReg .add .l s)
/-- `ADD A,A` (R180). -/
def execAddAA (s : State) : Result := .next (arithReg .add .a s)
/-- `ADC A,B` (R182). -/
def execAdcAB (s : State) : Result := .next (arithReg .adc .b s)
/-- `ADC A,C` (R182). -/
def execAdcAC (s : State) : Result := .next (arithReg .adc .c s)
/-- `ADC A,D` (R182). -/
def execAdcAD (s : State) : Result := .next (arithReg .adc .d s)
/-- `ADC A,E` (R182). -/
def execAdcAE (s : State) : Result := .next (arithReg .adc .e s)
/-- `ADC A,H` (R182). -/
def execAdcAH (s : State) : Result := .next (arithReg .adc .h s)
/-- `ADC A,L` (R182). -/
def execAdcAL (s : State) : Result := .next (arithReg .adc .l s)
/-- `ADC A,A` (R182). -/
def execAdcAA (s : State) : Result := .next (arithReg .adc .a s)
/-- `SUB B` (R184). -/
def execSubB (s : State) : Result := .next (arithReg .sub .b s)
/-- `SUB C` (R184). -/
def execSubC (s : State) : Result := .next (arithReg .sub .c s)
/-- `SUB D` (R184). -/
def execSubD (s : State) : Result := .next (arithReg .sub .d s)
/-- `SUB E` (R184). -/
def execSubE (s : State) : Result := .next (arithReg .sub .e s)
/-- `SUB H` (R184). -/
def execSubH (s : State) : Result := .next (arithReg .sub .h s)
/-- `SUB L` (R184). -/
def execSubL (s : State) : Result := .next (arithReg .sub .l s)
/-- `SUB A` (R184). -/
def execSubA (s : State) : Result := .next (arithReg .sub .a s)
/-- `SBC A,B` (R186). -/
def execSbcAB (s : State) : Result := .next (arithReg .sbc .b s)
/-- `SBC A,C` (R186). -/
def execSbcAC (s : State) : Result := .next (arithReg .sbc .c s)
/-- `SBC A,D` (R186). -/
def execSbcAD (s : State) : Result := .next (arithReg .sbc .d s)
/-- `SBC A,E` (R186). -/
def execSbcAE (s : State) : Result := .next (arithReg .sbc .e s)
/-- `SBC A,H` (R186). -/
def execSbcAH (s : State) : Result := .next (arithReg .sbc .h s)
/-- `SBC A,L` (R186). -/
def execSbcAL (s : State) : Result := .next (arithReg .sbc .l s)
/-- `SBC A,A` (R186). -/
def execSbcAA (s : State) : Result := .next (arithReg .sbc .a s)
/-- `ADD A,n` (R181). -/
def execAddAImm (n : Byte) (s : State) : Result := .next (arithImm .add n s)
/-- `ADC A,n` (R183). -/
def execAdcAImm (n : Byte) (s : State) : Result := .next (arithImm .adc n s)
/-- `SUB n` (R185). -/
def execSubImm (n : Byte) (s : State) : Result := .next (arithImm .sub n s)
/-- `SBC A,n` (R187). -/
def execSbcAImm (n : Byte) (s : State) : Result := .next (arithImm .sbc n s)

end Sys2Proof.Machine
end

