-- ==== Sys2Proof/Machine/Bitwise.lean ====
section
/-! DEFINITION. The bitwise instructions (45_bitwise.md R230 to R240). -/

namespace Sys2Proof.Machine

/-- AND, OR, XOR of A and a register (R231, R233, R235). -/
def logicReg (op : LogicOp) (r : Reg) (s : State) : State := operateLogic op (readReg r s) s

/-- AND, OR, XOR of A and an immediate (R232, R234, R236). -/
def logicImm (op : LogicOp) (n : Byte) (s : State) : State := operateLogic op n s

/-- RLCA (R237): bit 7 becomes the new bit 0 and the carry. -/
def rotateALeft (s : State) : State :=
  let a := readReg .a s
  updateFlags carryFlags [(.c, a.msb), (.h, false), (.n, false)]
    (writeReg .a ((a <<< 1) ||| (if a.msb then 1 else 0)) s)

/-- SCF (R238). -/
def setCarry (s : State) : State := updateFlags carryFlags [(.c, true), (.h, false), (.n, false)] s

/-- CCF (R239): H is the old carry. -/
def complementCarry (s : State) : State :=
  let c := flag .c s
  updateFlags carryFlags [(.c, !c), (.h, c), (.n, false)] s

/-- CPL (R240). -/
def complementA (s : State) : State :=
  updateFlags [.h, .n] [(.h, true), (.n, true)] (writeReg .a (~~~(readReg .a s)) s)

/-- `RLCA` (R237). -/
def execRlca (s : State) : Result := .next (rotateALeft s)
/-- `CPL` (R240). -/
def execCpl (s : State) : Result := .next (complementA s)
/-- `SCF` (R238). -/
def execScf (s : State) : Result := .next (setCarry s)
/-- `CCF` (R239). -/
def execCcf (s : State) : Result := .next (complementCarry s)
/-- `AND B` (R231). -/
def execAndB (s : State) : Result := .next (logicReg .and .b s)
/-- `AND C` (R231). -/
def execAndC (s : State) : Result := .next (logicReg .and .c s)
/-- `AND D` (R231). -/
def execAndD (s : State) : Result := .next (logicReg .and .d s)
/-- `AND E` (R231). -/
def execAndE (s : State) : Result := .next (logicReg .and .e s)
/-- `AND H` (R231). -/
def execAndH (s : State) : Result := .next (logicReg .and .h s)
/-- `AND L` (R231). -/
def execAndL (s : State) : Result := .next (logicReg .and .l s)
/-- `AND A` (R231). -/
def execAndA (s : State) : Result := .next (logicReg .and .a s)
/-- `XOR B` (R235). -/
def execXorB (s : State) : Result := .next (logicReg .xor .b s)
/-- `XOR C` (R235). -/
def execXorC (s : State) : Result := .next (logicReg .xor .c s)
/-- `XOR D` (R235). -/
def execXorD (s : State) : Result := .next (logicReg .xor .d s)
/-- `XOR E` (R235). -/
def execXorE (s : State) : Result := .next (logicReg .xor .e s)
/-- `XOR H` (R235). -/
def execXorH (s : State) : Result := .next (logicReg .xor .h s)
/-- `XOR L` (R235). -/
def execXorL (s : State) : Result := .next (logicReg .xor .l s)
/-- `XOR A` (R235). -/
def execXorA (s : State) : Result := .next (logicReg .xor .a s)
/-- `OR B` (R233). -/
def execOrB (s : State) : Result := .next (logicReg .or .b s)
/-- `OR C` (R233). -/
def execOrC (s : State) : Result := .next (logicReg .or .c s)
/-- `OR D` (R233). -/
def execOrD (s : State) : Result := .next (logicReg .or .d s)
/-- `OR E` (R233). -/
def execOrE (s : State) : Result := .next (logicReg .or .e s)
/-- `OR H` (R233). -/
def execOrH (s : State) : Result := .next (logicReg .or .h s)
/-- `OR L` (R233). -/
def execOrL (s : State) : Result := .next (logicReg .or .l s)
/-- `OR A` (R233). -/
def execOrA (s : State) : Result := .next (logicReg .or .a s)
/-- `AND n` (R232). -/
def execAndImm (n : Byte) (s : State) : Result := .next (logicImm .and n s)
/-- `XOR n` (R236). -/
def execXorImm (n : Byte) (s : State) : Result := .next (logicImm .xor n s)
/-- `OR n` (R234). -/
def execOrImm (n : Byte) (s : State) : Result := .next (logicImm .or n s)

end Sys2Proof.Machine
end

