-- ==== Sys2Proof/Machine/Control.lean ====
section
/-! DEFINITION. The control instructions (42_control.md R150 to R157). Each runs with `pc` past its bytes. -/

namespace Sys2Proof.Machine

/-- NOP: nothing (R150). -/
def noOperation (s : State) : State := s

/-- `mode <- Halted` (R151). -/
def haltProcessor (s : State) : State := s.setMode .halted

/-- `pc <- nn` (R152). -/
def jump (nn : Word) (s : State) : State := s.setPc nn

/-- A jump when the condition holds (R153). -/
def jumpIf (cc : Cond) (nn : Word) (s : State) : State := if holds cc s then jump nn s else s

/-- `Push16(pc); pc <- nn` (R154): `pc` is the address of the next instruction. -/
def callSub (nn : Word) (s : State) : State := jump nn (push16 s.pc s)

/-- A call when the condition holds (R155). -/
def callIf (cc : Cond) (nn : Word) (s : State) : State := if holds cc s then callSub nn s else s

/-- `pc <- Pop16()` (R156). -/
def returnFromSub (s : State) : State :=
  let (w, s₁) := pop16 s
  jump w s₁

/-- A return when the condition holds (R157). -/
def returnIf (cc : Cond) (s : State) : State := if holds cc s then returnFromSub s else s

/-- `NOP` (R150). -/
def execNop (s : State) : Result := .next (noOperation s)
/-- `HALT` (R151). -/
def execHalt (s : State) : Result := .next (haltProcessor s)
/-- `RET NZ` (R157). -/
def execRetNZ (s : State) : Result := .next (returnIf .nz s)
/-- `JP NZ,nn` (R153). -/
def execJpNZ (nn : Word) (s : State) : Result := .next (jumpIf .nz nn s)
/-- `JP nn` (R152). -/
def execJp (nn : Word) (s : State) : Result := .next (jump nn s)
/-- `CALL NZ,nn` (R155). -/
def execCallNZ (nn : Word) (s : State) : Result := .next (callIf .nz nn s)
/-- `RET Z` (R157). -/
def execRetZ (s : State) : Result := .next (returnIf .z s)
/-- `RET` (R156). -/
def execRet (s : State) : Result := .next (returnFromSub s)
/-- `JP Z,nn` (R153). -/
def execJpZ (nn : Word) (s : State) : Result := .next (jumpIf .z nn s)
/-- `CALL Z,nn` (R155). -/
def execCallZ (nn : Word) (s : State) : Result := .next (callIf .z nn s)
/-- `CALL nn` (R154). -/
def execCall (nn : Word) (s : State) : Result := .next (callSub nn s)
/-- `RET NC` (R157). -/
def execRetNC (s : State) : Result := .next (returnIf .nc s)
/-- `JP NC,nn` (R153). -/
def execJpNC (nn : Word) (s : State) : Result := .next (jumpIf .nc nn s)
/-- `CALL NC,nn` (R155). -/
def execCallNC (nn : Word) (s : State) : Result := .next (callIf .nc nn s)
/-- `RET C` (R157). -/
def execRetC (s : State) : Result := .next (returnIf .c s)
/-- `JP C,nn` (R153). -/
def execJpC (nn : Word) (s : State) : Result := .next (jumpIf .c nn s)
/-- `CALL C,nn` (R155). -/
def execCallC (nn : Word) (s : State) : Result := .next (callIf .c nn s)
/-- `RET PO` (R157). -/
def execRetPO (s : State) : Result := .next (returnIf .po s)
/-- `JP PO,nn` (R153). -/
def execJpPO (nn : Word) (s : State) : Result := .next (jumpIf .po nn s)
/-- `CALL PO,nn` (R155). -/
def execCallPO (nn : Word) (s : State) : Result := .next (callIf .po nn s)
/-- `RET PE` (R157). -/
def execRetPE (s : State) : Result := .next (returnIf .pe s)
/-- `JP PE,nn` (R153). -/
def execJpPE (nn : Word) (s : State) : Result := .next (jumpIf .pe nn s)
/-- `CALL PE,nn` (R155). -/
def execCallPE (nn : Word) (s : State) : Result := .next (callIf .pe nn s)
/-- `RET P` (R157). -/
def execRetP (s : State) : Result := .next (returnIf .p s)
/-- `JP P,nn` (R153). -/
def execJpP (nn : Word) (s : State) : Result := .next (jumpIf .p nn s)
/-- `CALL P,nn` (R155). -/
def execCallP (nn : Word) (s : State) : Result := .next (callIf .p nn s)
/-- `RET M` (R157). -/
def execRetM (s : State) : Result := .next (returnIf .m s)
/-- `JP M,nn` (R153). -/
def execJpM (nn : Word) (s : State) : Result := .next (jumpIf .m nn s)
/-- `CALL M,nn` (R155). -/
def execCallM (nn : Word) (s : State) : Result := .next (callIf .m nn s)

end Sys2Proof.Machine
end

