-- ==== Sys2Proof/Machine/Exchange.lean ====
section
/-! DEFINITION. The exchange instructions (46_exchange.md R260 to R263). -/

namespace Sys2Proof.Machine

/-- EX AF,AF' (R260). -/
def exchangeAF (s : State) : State :=
  (s.setMain { s.main with a := s.shadow.a, f := s.shadow.f }).setShadow
    { s.shadow with a := s.main.a, f := s.main.f }

/-- EXX (R261): B, C, D, E, H, L with their shadows. -/
def exchangeGeneral (s : State) : State :=
  (s.setMain
    { s.main with
      b := s.shadow.b, c := s.shadow.c, d := s.shadow.d, e := s.shadow.e, h := s.shadow.h, l := s.shadow.l
    }).setShadow
    { s.shadow with b := s.main.b, c := s.main.c, d := s.main.d, e := s.main.e, h := s.main.h, l := s.main.l }

/-- EX DE,HL (R262). -/
def exchangeDEHL (s : State) : State := writePair .de (readPair .hl s) (writePair .hl (readPair .de s) s)

/-- EX (SP),HL (R263): the word at SP is read before HL is stored there. -/
def exchangeStackHL (s : State) : State :=
  let w := memReadWord s.main.sp s
  writePair .hl w (memWriteWord s.main.sp (readPair .hl s) s)

/-- `EX AF,AF'` (R260). -/
def execExAFAF (s : State) : Result := .next (exchangeAF s)
/-- `EXX` (R261). -/
def execExx (s : State) : Result := .next (exchangeGeneral s)
/-- `EX (SP),HL` (R263). -/
def execExSPHL (s : State) : Result := .next (exchangeStackHL s)
/-- `EX DE,HL` (R262). -/
def execExDEHL (s : State) : Result := .next (exchangeDEHL s)

end Sys2Proof.Machine
end

