-- ==== Sys2Proof/Machine/Stack.lean ====
section
/-! DEFINITION. The stack instructions (48_stack.md R322, R323). -/

namespace Sys2Proof.Machine

/-- PUSH qq (R322). -/
def pushPair (p : StackPair) (s : State) : State := push16 (readStackPair p s) s

/-- POP qq (R323). -/
def popPair (p : StackPair) (s : State) : State :=
  let (w, s₁) := pop16 s
  writeStackPair p w s₁

/-- `POP BC` (R323). -/
def execPopBC (s : State) : Result := .next (popPair .bc s)
/-- `PUSH BC` (R322). -/
def execPushBC (s : State) : Result := .next (pushPair .bc s)
/-- `POP DE` (R323). -/
def execPopDE (s : State) : Result := .next (popPair .de s)
/-- `PUSH DE` (R322). -/
def execPushDE (s : State) : Result := .next (pushPair .de s)
/-- `POP HL` (R323). -/
def execPopHL (s : State) : Result := .next (popPair .hl s)
/-- `PUSH HL` (R322). -/
def execPushHL (s : State) : Result := .next (pushPair .hl s)
/-- `POP AF` (R323). -/
def execPopAF (s : State) : Result := .next (popPair .af s)
/-- `PUSH AF` (R322). -/
def execPushAF (s : State) : Result := .next (pushPair .af s)

end Sys2Proof.Machine
end

