-- ==== Sys2Proof/Machine/Transfer.lean ====
section
/-! DEFINITION. The memory (load and move) instructions (47_memory.md R280 to R288). -/

namespace Sys2Proof.Machine

/-- LD r,r' (R280). -/
def moveReg (dst src : Reg) (s : State) : State := writeReg dst (readReg src s) s

/-- LD r,(HL) (R281): the address is read before the register is written. -/
def loadAtHL (r : Reg) (s : State) : State := writeReg r (memRead (readPair .hl s) s) s

/-- LD (HL),r (R282). -/
def storeAtHL (r : Reg) (s : State) : State := memWrite (readPair .hl s) (readReg r s) s

/-- LD r,n (R283). -/
def loadImm (r : Reg) (n : Byte) (s : State) : State := writeReg r n s

/-- LD A,(nn) (R284). -/
def loadAAbs (nn : Word) (s : State) : State := writeReg .a (memRead nn s) s

/-- LD (nn),A (R285). -/
def storeAAbs (nn : Word) (s : State) : State := memWrite nn (readReg .a s) s

/-- LD HL,(nn) (R286). -/
def loadHLAbs (nn : Word) (s : State) : State := writePair .hl (memReadWord nn s) s

/-- LD (nn),HL (R287). -/
def storeHLAbs (nn : Word) (s : State) : State := memWriteWord nn (readPair .hl s) s

/-- LD (HL),n (R288). -/
def storeImmAtHL (n : Byte) (s : State) : State := memWrite (readPair .hl s) n s

/-- `LD B,n` (R283). -/
def execLdBImm (n : Byte) (s : State) : Result := .next (loadImm .b n s)
/-- `LD C,n` (R283). -/
def execLdCImm (n : Byte) (s : State) : Result := .next (loadImm .c n s)
/-- `LD D,n` (R283). -/
def execLdDImm (n : Byte) (s : State) : Result := .next (loadImm .d n s)
/-- `LD E,n` (R283). -/
def execLdEImm (n : Byte) (s : State) : Result := .next (loadImm .e n s)
/-- `LD (nn),HL` (R287). -/
def execLdAbsHL (nn : Word) (s : State) : Result := .next (storeHLAbs nn s)
/-- `LD H,n` (R283). -/
def execLdHImm (n : Byte) (s : State) : Result := .next (loadImm .h n s)
/-- `LD HL,(nn)` (R286). -/
def execLdHLAbs (nn : Word) (s : State) : Result := .next (loadHLAbs nn s)
/-- `LD L,n` (R283). -/
def execLdLImm (n : Byte) (s : State) : Result := .next (loadImm .l n s)
/-- `LD (nn),A` (R285). -/
def execLdAbsA (nn : Word) (s : State) : Result := .next (storeAAbs nn s)
/-- `LD (HL),n` (R288). -/
def execLdAtHLImm (n : Byte) (s : State) : Result := .next (storeImmAtHL n s)
/-- `LD A,(nn)` (R284). -/
def execLdAAbs (nn : Word) (s : State) : Result := .next (loadAAbs nn s)
/-- `LD A,n` (R283). -/
def execLdAImm (n : Byte) (s : State) : Result := .next (loadImm .a n s)
/-- `LD B,B` (R280). -/
def execLdBB (s : State) : Result := .next (moveReg .b .b s)
/-- `LD B,C` (R280). -/
def execLdBC (s : State) : Result := .next (moveReg .b .c s)
/-- `LD B,D` (R280). -/
def execLdBD (s : State) : Result := .next (moveReg .b .d s)
/-- `LD B,E` (R280). -/
def execLdBE (s : State) : Result := .next (moveReg .b .e s)
/-- `LD B,H` (R280). -/
def execLdBH (s : State) : Result := .next (moveReg .b .h s)
/-- `LD B,L` (R280). -/
def execLdBL (s : State) : Result := .next (moveReg .b .l s)
/-- `LD B,(HL)` (R281). -/
def execLdBAtHL (s : State) : Result := .next (loadAtHL .b s)
/-- `LD B,A` (R280). -/
def execLdBA (s : State) : Result := .next (moveReg .b .a s)
/-- `LD C,B` (R280). -/
def execLdCB (s : State) : Result := .next (moveReg .c .b s)
/-- `LD C,C` (R280). -/
def execLdCC (s : State) : Result := .next (moveReg .c .c s)
/-- `LD C,D` (R280). -/
def execLdCD (s : State) : Result := .next (moveReg .c .d s)
/-- `LD C,E` (R280). -/
def execLdCE (s : State) : Result := .next (moveReg .c .e s)
/-- `LD C,H` (R280). -/
def execLdCH (s : State) : Result := .next (moveReg .c .h s)
/-- `LD C,L` (R280). -/
def execLdCL (s : State) : Result := .next (moveReg .c .l s)
/-- `LD C,(HL)` (R281). -/
def execLdCAtHL (s : State) : Result := .next (loadAtHL .c s)
/-- `LD C,A` (R280). -/
def execLdCA (s : State) : Result := .next (moveReg .c .a s)
/-- `LD D,B` (R280). -/
def execLdDB (s : State) : Result := .next (moveReg .d .b s)
/-- `LD D,C` (R280). -/
def execLdDC (s : State) : Result := .next (moveReg .d .c s)
/-- `LD D,D` (R280). -/
def execLdDD (s : State) : Result := .next (moveReg .d .d s)
/-- `LD D,E` (R280). -/
def execLdDE (s : State) : Result := .next (moveReg .d .e s)
/-- `LD D,H` (R280). -/
def execLdDH (s : State) : Result := .next (moveReg .d .h s)
/-- `LD D,L` (R280). -/
def execLdDL (s : State) : Result := .next (moveReg .d .l s)
/-- `LD D,(HL)` (R281). -/
def execLdDAtHL (s : State) : Result := .next (loadAtHL .d s)
/-- `LD D,A` (R280). -/
def execLdDA (s : State) : Result := .next (moveReg .d .a s)
/-- `LD E,B` (R280). -/
def execLdEB (s : State) : Result := .next (moveReg .e .b s)
/-- `LD E,C` (R280). -/
def execLdEC (s : State) : Result := .next (moveReg .e .c s)
/-- `LD E,D` (R280). -/
def execLdED (s : State) : Result := .next (moveReg .e .d s)
/-- `LD E,E` (R280). -/
def execLdEE (s : State) : Result := .next (moveReg .e .e s)
/-- `LD E,H` (R280). -/
def execLdEH (s : State) : Result := .next (moveReg .e .h s)
/-- `LD E,L` (R280). -/
def execLdEL (s : State) : Result := .next (moveReg .e .l s)
/-- `LD E,(HL)` (R281). -/
def execLdEAtHL (s : State) : Result := .next (loadAtHL .e s)
/-- `LD E,A` (R280). -/
def execLdEA (s : State) : Result := .next (moveReg .e .a s)
/-- `LD H,B` (R280). -/
def execLdHB (s : State) : Result := .next (moveReg .h .b s)
/-- `LD H,C` (R280). -/
def execLdHC (s : State) : Result := .next (moveReg .h .c s)
/-- `LD H,D` (R280). -/
def execLdHD (s : State) : Result := .next (moveReg .h .d s)
/-- `LD H,E` (R280). -/
def execLdHE (s : State) : Result := .next (moveReg .h .e s)
/-- `LD H,H` (R280). -/
def execLdHH (s : State) : Result := .next (moveReg .h .h s)
/-- `LD H,L` (R280). -/
def execLdHL (s : State) : Result := .next (moveReg .h .l s)
/-- `LD H,(HL)` (R281). -/
def execLdHAtHL (s : State) : Result := .next (loadAtHL .h s)
/-- `LD H,A` (R280). -/
def execLdHA (s : State) : Result := .next (moveReg .h .a s)
/-- `LD L,B` (R280). -/
def execLdLB (s : State) : Result := .next (moveReg .l .b s)
/-- `LD L,C` (R280). -/
def execLdLC (s : State) : Result := .next (moveReg .l .c s)
/-- `LD L,D` (R280). -/
def execLdLD (s : State) : Result := .next (moveReg .l .d s)
/-- `LD L,E` (R280). -/
def execLdLE (s : State) : Result := .next (moveReg .l .e s)
/-- `LD L,H` (R280). -/
def execLdLH (s : State) : Result := .next (moveReg .l .h s)
/-- `LD L,L` (R280). -/
def execLdLL (s : State) : Result := .next (moveReg .l .l s)
/-- `LD L,(HL)` (R281). -/
def execLdLAtHL (s : State) : Result := .next (loadAtHL .l s)
/-- `LD L,A` (R280). -/
def execLdLA (s : State) : Result := .next (moveReg .l .a s)
/-- `LD (HL),B` (R282). -/
def execLdAtHLB (s : State) : Result := .next (storeAtHL .b s)
/-- `LD (HL),C` (R282). -/
def execLdAtHLC (s : State) : Result := .next (storeAtHL .c s)
/-- `LD (HL),D` (R282). -/
def execLdAtHLD (s : State) : Result := .next (storeAtHL .d s)
/-- `LD (HL),E` (R282). -/
def execLdAtHLE (s : State) : Result := .next (storeAtHL .e s)
/-- `LD (HL),H` (R282). -/
def execLdAtHLH (s : State) : Result := .next (storeAtHL .h s)
/-- `LD (HL),L` (R282). -/
def execLdAtHLL (s : State) : Result := .next (storeAtHL .l s)
/-- `LD (HL),A` (R282). -/
def execLdAtHLA (s : State) : Result := .next (storeAtHL .a s)
/-- `LD A,B` (R280). -/
def execLdAB (s : State) : Result := .next (moveReg .a .b s)
/-- `LD A,C` (R280). -/
def execLdAC (s : State) : Result := .next (moveReg .a .c s)
/-- `LD A,D` (R280). -/
def execLdAD (s : State) : Result := .next (moveReg .a .d s)
/-- `LD A,E` (R280). -/
def execLdAE (s : State) : Result := .next (moveReg .a .e s)
/-- `LD A,H` (R280). -/
def execLdAH (s : State) : Result := .next (moveReg .a .h s)
/-- `LD A,L` (R280). -/
def execLdAL (s : State) : Result := .next (moveReg .a .l s)
/-- `LD A,(HL)` (R281). -/
def execLdAAtHL (s : State) : Result := .next (loadAtHL .a s)
/-- `LD A,A` (R280). -/
def execLdAA (s : State) : Result := .next (moveReg .a .a s)

end Sys2Proof.Machine
end

