-- ==== Sys2Proof/Machine/Dispatch.lean ====
section
/-! DEFINITION. The dispatch of 40_execution.md R110 and R115: one arm per instruction, each the call of its
meaning, which runs after the instruction's bytes have been fetched. -/

namespace Sys2Proof.Machine

def exec (i : Instr) (s : State) : Host.Outcome State Fault Refusal :=
  match i with
  -- Control
  | .nop => Sys2Proof.Machine.execNop s
  | .halt => Sys2Proof.Machine.execHalt s
  | .retNZ => Sys2Proof.Machine.execRetNZ s
  | .jpNZ nn => Sys2Proof.Machine.execJpNZ nn s
  | .jp nn => Sys2Proof.Machine.execJp nn s
  | .callNZ nn => Sys2Proof.Machine.execCallNZ nn s
  | .retZ => Sys2Proof.Machine.execRetZ s
  | .ret => Sys2Proof.Machine.execRet s
  | .jpZ nn => Sys2Proof.Machine.execJpZ nn s
  | .callZ nn => Sys2Proof.Machine.execCallZ nn s
  | .call nn => Sys2Proof.Machine.execCall nn s
  | .retNC => Sys2Proof.Machine.execRetNC s
  | .jpNC nn => Sys2Proof.Machine.execJpNC nn s
  | .callNC nn => Sys2Proof.Machine.execCallNC nn s
  | .retC => Sys2Proof.Machine.execRetC s
  | .jpC nn => Sys2Proof.Machine.execJpC nn s
  | .callC nn => Sys2Proof.Machine.execCallC nn s
  | .retPO => Sys2Proof.Machine.execRetPO s
  | .jpPO nn => Sys2Proof.Machine.execJpPO nn s
  | .callPO nn => Sys2Proof.Machine.execCallPO nn s
  | .retPE => Sys2Proof.Machine.execRetPE s
  | .jpPE nn => Sys2Proof.Machine.execJpPE nn s
  | .callPE nn => Sys2Proof.Machine.execCallPE nn s
  | .retP => Sys2Proof.Machine.execRetP s
  | .jpP nn => Sys2Proof.Machine.execJpP nn s
  | .callP nn => Sys2Proof.Machine.execCallP nn s
  | .retM => Sys2Proof.Machine.execRetM s
  | .jpM nn => Sys2Proof.Machine.execJpM nn s
  | .callM nn => Sys2Proof.Machine.execCallM nn s
  -- 8-bit arithmetic
  | .incB => Sys2Proof.Machine.execIncB s
  | .decB => Sys2Proof.Machine.execDecB s
  | .incC => Sys2Proof.Machine.execIncC s
  | .decC => Sys2Proof.Machine.execDecC s
  | .incD => Sys2Proof.Machine.execIncD s
  | .decD => Sys2Proof.Machine.execDecD s
  | .incE => Sys2Proof.Machine.execIncE s
  | .decE => Sys2Proof.Machine.execDecE s
  | .incH => Sys2Proof.Machine.execIncH s
  | .decH => Sys2Proof.Machine.execDecH s
  | .incL => Sys2Proof.Machine.execIncL s
  | .decL => Sys2Proof.Machine.execDecL s
  | .incA => Sys2Proof.Machine.execIncA s
  | .decA => Sys2Proof.Machine.execDecA s
  | .addAB => Sys2Proof.Machine.execAddAB s
  | .addAC => Sys2Proof.Machine.execAddAC s
  | .addAD => Sys2Proof.Machine.execAddAD s
  | .addAE => Sys2Proof.Machine.execAddAE s
  | .addAH => Sys2Proof.Machine.execAddAH s
  | .addAL => Sys2Proof.Machine.execAddAL s
  | .addAA => Sys2Proof.Machine.execAddAA s
  | .adcAB => Sys2Proof.Machine.execAdcAB s
  | .adcAC => Sys2Proof.Machine.execAdcAC s
  | .adcAD => Sys2Proof.Machine.execAdcAD s
  | .adcAE => Sys2Proof.Machine.execAdcAE s
  | .adcAH => Sys2Proof.Machine.execAdcAH s
  | .adcAL => Sys2Proof.Machine.execAdcAL s
  | .adcAA => Sys2Proof.Machine.execAdcAA s
  | .subB => Sys2Proof.Machine.execSubB s
  | .subC => Sys2Proof.Machine.execSubC s
  | .subD => Sys2Proof.Machine.execSubD s
  | .subE => Sys2Proof.Machine.execSubE s
  | .subH => Sys2Proof.Machine.execSubH s
  | .subL => Sys2Proof.Machine.execSubL s
  | .subA => Sys2Proof.Machine.execSubA s
  | .sbcAB => Sys2Proof.Machine.execSbcAB s
  | .sbcAC => Sys2Proof.Machine.execSbcAC s
  | .sbcAD => Sys2Proof.Machine.execSbcAD s
  | .sbcAE => Sys2Proof.Machine.execSbcAE s
  | .sbcAH => Sys2Proof.Machine.execSbcAH s
  | .sbcAL => Sys2Proof.Machine.execSbcAL s
  | .sbcAA => Sys2Proof.Machine.execSbcAA s
  | .addAImm n => Sys2Proof.Machine.execAddAImm n s
  | .adcAImm n => Sys2Proof.Machine.execAdcAImm n s
  | .subImm n => Sys2Proof.Machine.execSubImm n s
  | .sbcAImm n => Sys2Proof.Machine.execSbcAImm n s
  -- 16-bit arithmetic
  | .incBC => Sys2Proof.Machine.execIncBC s
  | .addHLBC => Sys2Proof.Machine.execAddHLBC s
  | .decBC => Sys2Proof.Machine.execDecBC s
  | .incDE => Sys2Proof.Machine.execIncDE s
  | .addHLDE => Sys2Proof.Machine.execAddHLDE s
  | .decDE => Sys2Proof.Machine.execDecDE s
  | .incHL => Sys2Proof.Machine.execIncHL s
  | .addHLHL => Sys2Proof.Machine.execAddHLHL s
  | .decHL => Sys2Proof.Machine.execDecHL s
  | .incSP => Sys2Proof.Machine.execIncSP s
  | .addHLSP => Sys2Proof.Machine.execAddHLSP s
  | .decSP => Sys2Proof.Machine.execDecSP s
  -- Bitwise
  | .rlca => Sys2Proof.Machine.execRlca s
  | .cpl => Sys2Proof.Machine.execCpl s
  | .scf => Sys2Proof.Machine.execScf s
  | .ccf => Sys2Proof.Machine.execCcf s
  | .andB => Sys2Proof.Machine.execAndB s
  | .andC => Sys2Proof.Machine.execAndC s
  | .andD => Sys2Proof.Machine.execAndD s
  | .andE => Sys2Proof.Machine.execAndE s
  | .andH => Sys2Proof.Machine.execAndH s
  | .andL => Sys2Proof.Machine.execAndL s
  | .andA => Sys2Proof.Machine.execAndA s
  | .xorB => Sys2Proof.Machine.execXorB s
  | .xorC => Sys2Proof.Machine.execXorC s
  | .xorD => Sys2Proof.Machine.execXorD s
  | .xorE => Sys2Proof.Machine.execXorE s
  | .xorH => Sys2Proof.Machine.execXorH s
  | .xorL => Sys2Proof.Machine.execXorL s
  | .xorA => Sys2Proof.Machine.execXorA s
  | .orB => Sys2Proof.Machine.execOrB s
  | .orC => Sys2Proof.Machine.execOrC s
  | .orD => Sys2Proof.Machine.execOrD s
  | .orE => Sys2Proof.Machine.execOrE s
  | .orH => Sys2Proof.Machine.execOrH s
  | .orL => Sys2Proof.Machine.execOrL s
  | .orA => Sys2Proof.Machine.execOrA s
  | .andImm n => Sys2Proof.Machine.execAndImm n s
  | .xorImm n => Sys2Proof.Machine.execXorImm n s
  | .orImm n => Sys2Proof.Machine.execOrImm n s
  -- Exchange
  | .exAFAF => Sys2Proof.Machine.execExAFAF s
  | .exx => Sys2Proof.Machine.execExx s
  | .exSPHL => Sys2Proof.Machine.execExSPHL s
  | .exDEHL => Sys2Proof.Machine.execExDEHL s
  -- Memory
  | .ldBImm n => Sys2Proof.Machine.execLdBImm n s
  | .ldCImm n => Sys2Proof.Machine.execLdCImm n s
  | .ldDImm n => Sys2Proof.Machine.execLdDImm n s
  | .ldEImm n => Sys2Proof.Machine.execLdEImm n s
  | .ldAbsHL nn => Sys2Proof.Machine.execLdAbsHL nn s
  | .ldHImm n => Sys2Proof.Machine.execLdHImm n s
  | .ldHLAbs nn => Sys2Proof.Machine.execLdHLAbs nn s
  | .ldLImm n => Sys2Proof.Machine.execLdLImm n s
  | .ldAbsA nn => Sys2Proof.Machine.execLdAbsA nn s
  | .ldAtHLImm n => Sys2Proof.Machine.execLdAtHLImm n s
  | .ldAAbs nn => Sys2Proof.Machine.execLdAAbs nn s
  | .ldAImm n => Sys2Proof.Machine.execLdAImm n s
  | .ldBB => Sys2Proof.Machine.execLdBB s
  | .ldBC => Sys2Proof.Machine.execLdBC s
  | .ldBD => Sys2Proof.Machine.execLdBD s
  | .ldBE => Sys2Proof.Machine.execLdBE s
  | .ldBH => Sys2Proof.Machine.execLdBH s
  | .ldBL => Sys2Proof.Machine.execLdBL s
  | .ldBAtHL => Sys2Proof.Machine.execLdBAtHL s
  | .ldBA => Sys2Proof.Machine.execLdBA s
  | .ldCB => Sys2Proof.Machine.execLdCB s
  | .ldCC => Sys2Proof.Machine.execLdCC s
  | .ldCD => Sys2Proof.Machine.execLdCD s
  | .ldCE => Sys2Proof.Machine.execLdCE s
  | .ldCH => Sys2Proof.Machine.execLdCH s
  | .ldCL => Sys2Proof.Machine.execLdCL s
  | .ldCAtHL => Sys2Proof.Machine.execLdCAtHL s
  | .ldCA => Sys2Proof.Machine.execLdCA s
  | .ldDB => Sys2Proof.Machine.execLdDB s
  | .ldDC => Sys2Proof.Machine.execLdDC s
  | .ldDD => Sys2Proof.Machine.execLdDD s
  | .ldDE => Sys2Proof.Machine.execLdDE s
  | .ldDH => Sys2Proof.Machine.execLdDH s
  | .ldDL => Sys2Proof.Machine.execLdDL s
  | .ldDAtHL => Sys2Proof.Machine.execLdDAtHL s
  | .ldDA => Sys2Proof.Machine.execLdDA s
  | .ldEB => Sys2Proof.Machine.execLdEB s
  | .ldEC => Sys2Proof.Machine.execLdEC s
  | .ldED => Sys2Proof.Machine.execLdED s
  | .ldEE => Sys2Proof.Machine.execLdEE s
  | .ldEH => Sys2Proof.Machine.execLdEH s
  | .ldEL => Sys2Proof.Machine.execLdEL s
  | .ldEAtHL => Sys2Proof.Machine.execLdEAtHL s
  | .ldEA => Sys2Proof.Machine.execLdEA s
  | .ldHB => Sys2Proof.Machine.execLdHB s
  | .ldHC => Sys2Proof.Machine.execLdHC s
  | .ldHD => Sys2Proof.Machine.execLdHD s
  | .ldHE => Sys2Proof.Machine.execLdHE s
  | .ldHH => Sys2Proof.Machine.execLdHH s
  | .ldHL => Sys2Proof.Machine.execLdHL s
  | .ldHAtHL => Sys2Proof.Machine.execLdHAtHL s
  | .ldHA => Sys2Proof.Machine.execLdHA s
  | .ldLB => Sys2Proof.Machine.execLdLB s
  | .ldLC => Sys2Proof.Machine.execLdLC s
  | .ldLD => Sys2Proof.Machine.execLdLD s
  | .ldLE => Sys2Proof.Machine.execLdLE s
  | .ldLH => Sys2Proof.Machine.execLdLH s
  | .ldLL => Sys2Proof.Machine.execLdLL s
  | .ldLAtHL => Sys2Proof.Machine.execLdLAtHL s
  | .ldLA => Sys2Proof.Machine.execLdLA s
  | .ldAtHLB => Sys2Proof.Machine.execLdAtHLB s
  | .ldAtHLC => Sys2Proof.Machine.execLdAtHLC s
  | .ldAtHLD => Sys2Proof.Machine.execLdAtHLD s
  | .ldAtHLE => Sys2Proof.Machine.execLdAtHLE s
  | .ldAtHLH => Sys2Proof.Machine.execLdAtHLH s
  | .ldAtHLL => Sys2Proof.Machine.execLdAtHLL s
  | .ldAtHLA => Sys2Proof.Machine.execLdAtHLA s
  | .ldAB => Sys2Proof.Machine.execLdAB s
  | .ldAC => Sys2Proof.Machine.execLdAC s
  | .ldAD => Sys2Proof.Machine.execLdAD s
  | .ldAE => Sys2Proof.Machine.execLdAE s
  | .ldAH => Sys2Proof.Machine.execLdAH s
  | .ldAL => Sys2Proof.Machine.execLdAL s
  | .ldAAtHL => Sys2Proof.Machine.execLdAAtHL s
  | .ldAA => Sys2Proof.Machine.execLdAA s
  -- Stack
  | .popBC => Sys2Proof.Machine.execPopBC s
  | .pushBC => Sys2Proof.Machine.execPushBC s
  | .popDE => Sys2Proof.Machine.execPopDE s
  | .pushDE => Sys2Proof.Machine.execPushDE s
  | .popHL => Sys2Proof.Machine.execPopHL s
  | .pushHL => Sys2Proof.Machine.execPushHL s
  | .popAF => Sys2Proof.Machine.execPopAF s
  | .pushAF => Sys2Proof.Machine.execPushAF s

end Sys2Proof.Machine
end

