-- ==== Sys2Proof/Machine/Step.lean ====
section
/-! DEFINITION. One step (40_execution.md R110, R116). -/

namespace Sys2Proof.Machine

/-- `step()`: nothing while Halted (R116), else fetch, decode, execute, cycle output, overflow halt (R110). -/
def step (s : State) : Host.Outcome State Fault Refusal :=
  match s.mode with
  | .halted => .next s
  | .running =>
    match fetchInstr s with
    | .failed addr op s₁ => .next (raiseDecodeFailure addr op s₁)
    | .instr i s₁ =>
      match exec i s₁ with
      | .next t => .next (endStep i (pathOf i s₁) t)
      | .fault r => .fault r
      | .refused r => .refused r

/-- The bytes of an opcode-table row at `pc`, in a machine the host has set Running: what `load_at` and `run_at`
do before a first instruction (R117, R120; log entry 3). -/
def State.withFetchWord (s : State) (nbits w : Nat) : State :=
  match tableBytes nbits w with
  | [b₀, b₁, b₂] =>
    (memWrite s.pc b₀ (memWrite (s.pc + 1) b₁ (memWrite (s.pc + 2) b₂ s))).setMode .running
  | _ => s

end Sys2Proof.Machine
end

