-- ==== Sys2Proof/WellFormed.lean ====
section
/-! DEFINITION. Well-formedness of what is given to the machine. Every operand of `Instr` is a bit vector of the
width its field has (30_encoding.md R84), so every instruction is well formed and has no check of its own; a
program image is checked against the end of the address space (40_execution.md R120). -/

namespace Sys2Proof

/-- A program and the address it is loaded at: `load_at(program, address)`, R120, R81. -/
structure Image where
  address : Word
  program : List Byte
deriving DecidableEq, Repr

/-- `address + L <= 65536`, an exact integer sum (R120). -/
def Image.fits (g : Image) : Bool := decide (g.address.toNat + g.program.length ≤ 65536)

end Sys2Proof
end

