-- ==== Sys2Proof/Machine/Surface.lean ====
section
/-! DEFINITION. The host surface (40_execution.md R117 to R123, 60_exceptions.md R343): what the caller does to the
machine between steps, and the run loop. -/

namespace Sys2Proof.Machine

/-! ## What `step()` returns -/

/-- The three returns of `step()` (R110, R116, 60_exceptions.md R341). -/
inductive StepReturn where
  | halted
  | executed
  | decodeFailure (d : DecodeFailure)
deriving DecidableEq, Repr

/-- The return of the step taken from a state; the state after it is `step`'s. -/
def stepReturns (s : State) : StepReturn :=
  match s.mode with
  | .halted => .halted
  | .running =>
    match fetchInstr s with
    | .failed addr op _ => .decodeFailure { addr := addr, byte := op }
    | .instr _ _ => .executed

/-! ## Loading a program -/

/-- The writes of `load_at`, byte `i` of the program at `address + i` (R120). -/
def storeBytes (m : Memory) (a : Nat) : List Byte → Memory
  | [] => m
  | b :: bs => storeBytes (m.write a b) (a + 1) bs

/-- `load_at(program, address)`: all or nothing (R120, R343). -/
def loadAt (g : Image) (s : State) : Bool × State :=
  if g.fits then (true, s.setMem (storeBytes s.mem g.address.toNat g.program)) else (false, s)

/-- `load(program)` (R121). -/
def load (program : List Byte) (s : State) : Bool × State := loadAt { address := 0x0000, program := program } s

/-! ## Running -/

/-- `goto(address)` (R123). -/
def goto (address : Word) (s : State) : State := s.setPc address

/-- What `run_at` does before its loop (R117): the external restart. -/
def startRun (address : Word) (s : State) : State :=
  ((((s.setMode .halted).setPc address).setFault none).setPcOverflowed false).setMode .running

/-- The returns of `run_at` (R117). -/
inductive RunReturn where
  | halted
  | decodeFailure (d : DecodeFailure)
deriving DecidableEq, Repr

/-- The run loop after at most some number of steps: returned, or still running (R117, R125; log entry 13). -/
inductive RunOutcome where
  | returned (r : RunReturn) (s : State)
  | stillRunning (s : State)
  | fault (r : Fault)
  | refused (r : Refusal)
deriving DecidableEq, Repr

/-- The loop of `run_at`, at most `fuel` steps (R117). -/
def runLoop : Nat → State → RunOutcome
  | 0, s => .stillRunning s
  | fuel + 1, s =>
    match step s with
    | .next t =>
      match stepReturns s with
      | .decodeFailure d => .returned (.decodeFailure d) t
      | .halted => .returned .halted t
      | .executed => if t.mode = .halted then .returned .halted t else runLoop fuel t
    | .fault r => .fault r
    | .refused r => .refused r

/-- `run_at(address)` (R117), at most `fuel` steps. -/
def runAt (fuel : Nat) (address : Word) (s : State) : RunOutcome := runLoop fuel (startRun address s)

/-- `run()` (R119). -/
def run (fuel : Nat) (s : State) : RunOutcome := runAt fuel 0x0000 s

/-- `run_at(address)` returns: some number of steps suffices. A run that never does does not return (R117, I12). -/
def RunReturns (address : Word) (s : State) (r : RunReturn) (t : State) : Prop :=
  ∃ fuel, runAt fuel address s = .returned r t

/-! ## Direct access to state between steps (R37, R122) -/

/-- The main or the shadow register set. -/
inductive Bank where
  | main | shadow
deriving DecidableEq, Repr

/-- What the host may write: not the mode, which only a run changes, nor the fault record (R37, R118). -/
inductive HostWrite where
  | reg (bank : Bank) (r : Reg) (v : Byte)
  | f (bank : Bank) (v : Byte)
  | flag (bank : Bank) (x : Flag) (v : Bool)
  | sp (bank : Bank) (v : Word)
  | pc (v : Word)
  | byte (a : Word) (v : Byte)
deriving DecidableEq, Repr

/-- A register set of the machine, as the host reads it. -/
def readBank (bank : Bank) (s : State) : RegSet :=
  match bank with
  | .main => s.main
  | .shadow => s.shadow

/-- A register set of the machine changed by the host. -/
def onBank (bank : Bank) (k : RegSet → RegSet) (s : State) : State :=
  match bank with
  | .main => s.setMain (k s.main)
  | .shadow => s.setShadow (k s.shadow)

/-- A host write (R122). -/
def hostWrite (w : HostWrite) (s : State) : State :=
  match w with
  | .reg bank r v => onBank bank (fun m => m.set r v) s
  | .f bank v => onBank bank (fun m => { m with f := v }) s
  | .flag bank x v => onBank bank (fun m => { m with f := setFlag x v m.f }) s
  | .sp bank v => onBank bank (fun m => { m with sp := v }) s
  | .pc v => goto v s
  | .byte a v => memWrite a v s

end Sys2Proof.Machine
end

