-- ==== Sys2Proof/Safety.lean ====
section
/-! DEFINITION. What counts as a safe run, and the words claims are stated in: the invariant of the machine, and
what an instruction leaves unchanged. -/

namespace Sys2Proof.Machine

/-- What holds between steps of every machine (10_state.md R33, R34). -/
structure Inv (s : State) : Prop where
  /-- Memory is in its canonical form, within the address space (20_memory.md R50). -/
  memory : s.mem.wf = true
  /-- The overflow latch is clear (R34). -/
  latch : s.pcOverflowed = false
  /-- A recorded decode failure is of an unimplemented byte, and the processor is Halted (R33, R341). -/
  failure : ∀ d, s.fault = some d → s.mode = .halted ∧ isImplemented d.byte = false

/-- A step is safe if it answers a next state with no decode failure recorded in it. -/
def SafeStep (s : State) : Prop := ∃ t, step s = .next t ∧ t.fault = none

/-- Every byte of memory reads as before. -/
def MemSame (s t : State) : Prop := ∀ a, t.mem.read a = s.mem.read a

/-- Every byte of memory outside the listed addresses reads as before. -/
def MemSameBut (written : List Word) (s t : State) : Prop :=
  ∀ a, a ∉ written.map BitVec.toNat → t.mem.read a = s.mem.read a

/-- Every operand register outside the list is as before. -/
def RegsSameBut (written : List Reg) (s t : State) : Prop :=
  ∀ r, r ∉ written → readReg r t = readReg r s

/-- Every flag outside the list, and both reserved bits of F, are as before. -/
def FlagsSameBut (written : List Flag) (s t : State) : Prop :=
  (∀ x, x ∉ written → flag x t = flag x s) ∧
    t.main.f.getLsbD 3 = s.main.f.getLsbD 3 ∧ t.main.f.getLsbD 5 = s.main.f.getLsbD 5

/-- The shadow set, the fault record, the overflow latch and the cycle output are as before. -/
def SystemSame (s t : State) : Prop :=
  t.shadow = s.shadow ∧ t.fault = s.fault ∧ t.pcOverflowed = s.pcOverflowed ∧ t.cycleEvents = s.cycleEvents

/-- Everything outside the main register set is as before: the frame of an instruction on registers and flags. -/
structure OutsideMainSame (s t : State) : Prop where
  pc : t.pc = s.pc
  mode : t.mode = s.mode
  memory : MemSame s t
  system : SystemSame s t

/-- Everything but the listed registers and flags is as before: SP, the other registers and flags, the reserved
bits of F, and all that is outside the main set. -/
structure RegisterFrame (regs : List Reg) (flags : List Flag) (s t : State) : Prop where
  regs : RegsSameBut regs s t
  flags : FlagsSameBut flags s t
  sp : t.main.sp = s.main.sp
  outside : OutsideMainSame s t

/-- Everything but memory at the listed addresses is as before, `pc` and the main set apart. -/
structure StoreFrame (written : List Word) (s t : State) : Prop where
  memory : MemSameBut written s t
  mode : t.mode = s.mode
  system : SystemSame s t

/-- Everything but one register set is as before. -/
structure BankFrame (bank : Bank) (s t : State) : Prop where
  other : ∀ k, k ≠ bank → readBank k t = readBank k s
  pc : t.pc = s.pc
  mode : t.mode = s.mode
  memory : MemSame s t
  fault : t.fault = s.fault
  latch : t.pcOverflowed = s.pcOverflowed
  cycleEvents : t.cycleEvents = s.cycleEvents

/-- A fetch at an address reads a byte, as long as memory stays what it is in a state (20_memory.md R63). -/
def FetchesAs (a : Word) (v : Byte) (t : State) : Prop := ∀ u, u.mem = t.mem → (fetchByte (goto a u)).1 = v

/-- The flags each instruction may write: the affected sets of R28 to R30, and all six for the two instructions
that write F whole. -/
def affectedFlags : Instr → List Flag
  | .nop | .incBC | .ldBImm _ | .decBC | .ldCImm _ | .incDE | .ldDImm _ | .decDE
  | .ldEImm _ | .ldAbsHL _ | .incHL | .ldHImm _ | .ldHLAbs _ | .decHL | .ldLImm _ | .ldAbsA _
  | .incSP | .ldAtHLImm _ | .ldAAbs _ | .decSP | .ldAImm _ | .ldBB | .ldBC | .ldBD
  | .ldBE | .ldBH | .ldBL | .ldBAtHL | .ldBA | .ldCB | .ldCC | .ldCD
  | .ldCE | .ldCH | .ldCL | .ldCAtHL | .ldCA | .ldDB | .ldDC | .ldDD
  | .ldDE | .ldDH | .ldDL | .ldDAtHL | .ldDA | .ldEB | .ldEC | .ldED
  | .ldEE | .ldEH | .ldEL | .ldEAtHL | .ldEA | .ldHB | .ldHC | .ldHD
  | .ldHE | .ldHH | .ldHL | .ldHAtHL | .ldHA | .ldLB | .ldLC | .ldLD
  | .ldLE | .ldLH | .ldLL | .ldLAtHL | .ldLA | .ldAtHLB | .ldAtHLC | .ldAtHLD
  | .ldAtHLE | .ldAtHLH | .ldAtHLL | .halt | .ldAtHLA | .ldAB | .ldAC | .ldAD
  | .ldAE | .ldAH | .ldAL | .ldAAtHL | .ldAA | .retNZ | .popBC | .jpNZ _
  | .jp _ | .callNZ _ | .pushBC | .retZ | .ret | .jpZ _ | .callZ _ | .call _
  | .retNC | .popDE | .jpNC _ | .callNC _ | .pushDE | .retC | .exx | .jpC _
  | .callC _ | .retPO | .popHL | .jpPO _ | .exSPHL | .callPO _ | .pushHL | .retPE
  | .jpPE _ | .exDEHL | .callPE _ | .retP | .jpP _ | .callP _ | .pushAF | .retM
  | .jpM _ | .callM _ => []
  | .incB | .decB | .incC | .decC | .incD | .decD | .incE | .decE
  | .incH | .decH | .incL | .decL | .incA | .decA => [.s, .z, .h, .pv, .n]
  | .rlca | .addHLBC | .addHLDE | .addHLHL | .scf | .addHLSP | .ccf => [.c, .h, .n]
  | .exAFAF | .addAB | .addAC | .addAD | .addAE | .addAH | .addAL | .addAA
  | .adcAB | .adcAC | .adcAD | .adcAE | .adcAH | .adcAL | .adcAA | .subB
  | .subC | .subD | .subE | .subH | .subL | .subA | .sbcAB | .sbcAC
  | .sbcAD | .sbcAE | .sbcAH | .sbcAL | .sbcAA | .andB | .andC | .andD
  | .andE | .andH | .andL | .andA | .xorB | .xorC | .xorD | .xorE
  | .xorH | .xorL | .xorA | .orB | .orC | .orD | .orE | .orH
  | .orL | .orA | .addAImm _ | .adcAImm _ | .subImm _ | .sbcAImm _ | .andImm _ | .xorImm _
  | .popAF | .orImm _ => [.s, .z, .h, .pv, .n, .c]
  | .cpl => [.h, .n]

end Sys2Proof.Machine
end

