-- ==== Sys2Proof/Certificates/Slice0/Obligations.lean ====
section
/-! DEFINITION. The statements about the machine, by the rules of spec/ they formalise. The byte values in their
`encode` clauses, and what a docstring ascribes to a decision D<n>, are the spec's own decisions
(92_eei_decisions.md; log entry 9); what is the model's own choice is said with its log entry. -/

open Sys2Proof Sys2Proof.Machine

/-! ## Encoding -/

/-- Every instruction, at every operand value, decodes from its own encoding (30_encoding.md R82, R83, R86): the
decoder reads bit fields, the encoder the opcode map. -/
def Obligations.DecodeEncodeRoundTrip : Prop :=
  ∀ (i : Instr) (rest : List Byte), decode (encode i ++ rest) = .ok (i, rest)

/-- Bytes that decode are the encoding of what they decode to: no byte aliases another instruction (R87, R88, D2). -/
def Obligations.DecodedBytesAreTheEncoding : Prop :=
  ∀ (bytes : List Byte) (i : Instr) (rest : List Byte),
    decode bytes = .ok (i, rest) → bytes = encode i ++ rest

/-- The patterns of R82 with the field codes of R83, for every operand (decision D1). -/
def Obligations.OpcodePatternsAndFieldCodes : Prop :=
  (∀ dst src : Reg, encode (.ldReg dst src) = [0b01#2 ++ dst.code ++ src.code]) ∧
  (∀ (k : AluOp) (r : Reg), encode (.aluReg k r) = [0b10#2 ++ k.code ++ r.code]) ∧
  (∀ (k : AluOp) (n : Byte), encode (.aluImm k n) = [0b11#2 ++ k.code ++ 0b110#3, n]) ∧
  (∀ r : Reg, encode (.incReg r) = [0b00#2 ++ r.code ++ 0b100#3]) ∧
  (∀ r : Reg, encode (.decReg r) = [0b00#2 ++ r.code ++ 0b101#3]) ∧
  (∀ (r : Reg) (n : Byte), encode (.ldRegImm r n) = [0b00#2 ++ r.code ++ 0b110#3, n]) ∧
  (∀ r : Reg, encode (.ldRegAtHL r) = [0b01#2 ++ r.code ++ 0b110#3]) ∧
  (∀ r : Reg, encode (.ldAtHLReg r) = [0b01110#5 ++ r.code]) ∧
  (∀ p : RegPair, encode (.incPair p) = [0b00#2 ++ p.code ++ 0b0011#4]) ∧
  (∀ p : RegPair, encode (.decPair p) = [0b00#2 ++ p.code ++ 0b1011#4]) ∧
  (∀ p : RegPair, encode (.addHL p) = [0b00#2 ++ p.code ++ 0b1001#4]) ∧
  (∀ q : StackPair, encode (.push q) = [0b11#2 ++ q.code ++ 0b0101#4]) ∧
  (∀ q : StackPair, encode (.pop q) = [0b11#2 ++ q.code ++ 0b0001#4]) ∧
  (∀ (cc : Cond) (nn : Word),
    encode (.jpCond cc nn) = [0b11#2 ++ cc.code ++ 0b010#3, loByte nn, hiByte nn]) ∧
  (∀ (cc : Cond) (nn : Word),
    encode (.callCond cc nn) = [0b11#2 ++ cc.code ++ 0b100#3, loByte nn, hiByte nn]) ∧
  (∀ cc : Cond, encode (.retCond cc) = [0b11#2 ++ cc.code ++ 0b000#3])

/-- A word of each family, written out from the opcode map of R86, decodes to its instruction. -/
def Obligations.SampleOpcodesDecode : Prop :=
  decode [0b01110110#8] = .ok (.halt, []) ∧
  decode [0b11001010#8, 0x34#8, 0x12#8] = .ok (.jpZ 0x1234#16, []) ∧
  decode [0b10011101#8] = .ok (.sbcAL, []) ∧
  decode [0b00111001#8] = .ok (.addHLSP, []) ∧
  decode [0b11101110#8, 0x5A#8] = .ok (.xorImm 0x5A#8, []) ∧
  decode [0b11100011#8] = .ok (.exSPHL, []) ∧
  decode [0b01100110#8] = .ok (.ldHAtHL, []) ∧
  decode [0b11110001#8] = .ok (.popAF, [])

/-- The opcode alone fixes the length (R85): one immediate byte after the F2 opcodes, two after the F3 ones, none
after every other implemented one. -/
def Obligations.LengthFixedByOpcode : Prop :=
  ∀ op : Byte,
    (formatOf op).immediates =
      if op.toNat ∈ [0x06, 0x0E, 0x16, 0x1E, 0x26, 0x2E, 0x3E, 0x36, 0xC6, 0xCE, 0xD6, 0xDE, 0xE6, 0xEE, 0xF6]
      then some 1
      else if op.toNat ∈ [0xC3, 0xC2, 0xCA, 0xD2, 0xDA, 0xE2, 0xEA, 0xF2, 0xFA, 0xCD, 0xC4, 0xCC, 0xD4, 0xDC, 0xE4,
        0xEC, 0xF4, 0xFC, 0x3A, 0x32, 0x2A, 0x22]
      then some 2
      else if isImplemented op then some 0 else none

/-- Decode is total (R87): a byte is unimplemented exactly if it is one of the 54, and fetching one of those as an
opcode is a decode failure whatever follows it. Which bytes are unimplemented is the spec's decision D1 and D2, what
the step then returns its decision D20 (log entry 9). -/
def Obligations.UnimplementedBytesAreDecodeFailures : Prop :=
  ∀ op : Byte,
    (isImplemented op = false ↔
      op.toNat ∈ [0x01, 0x02, 0x0A, 0x0F, 0x10, 0x11, 0x12, 0x17, 0x18, 0x1A, 0x1F, 0x20, 0x21, 0x27, 0x28, 0x30,
        0x31, 0x34, 0x35, 0x38, 0x86, 0x8E, 0x96, 0x9E, 0xA6, 0xAE, 0xB6, 0xB8, 0xB9, 0xBA, 0xBB, 0xBC, 0xBD,
        0xBE, 0xBF, 0xC7, 0xCB, 0xCF, 0xD3, 0xD7, 0xDB, 0xDD, 0xDF, 0xE7, 0xE9, 0xED, 0xEF, 0xF3, 0xF7, 0xF9,
        0xFB, 0xFD, 0xFE, 0xFF]) ∧
    (isImplemented op = false →
      (∀ rest, decode (op :: rest) = .error (.unimplemented op)) ∧
      ∀ s : State, s.mode = .running → memRead s.pc s = op →
        stepReturns s = .decodeFailure { addr := s.pc, byte := op })

/-! ## The engine -/

/-- FetchByte and FetchWord (40_execution.md R111, R112): the byte at `pc`, and `pc` advanced, to 0x0000 with the
latch set past 0xFFFF (decision D19); a word is fetched low byte first. -/
def Obligations.FetchReadsAndAdvances : Prop :=
  ∀ s : State,
    (fetchByte s).1 = memRead s.pc s ∧
    (s.pc = 0xFFFF → (fetchByte s).2 = { s with pc := 0x0000, pcOverflowed := true }) ∧
    (s.pc ≠ 0xFFFF → (fetchByte s).2 = { s with pc := s.pc + 1 }) ∧
    (fetchWord s).1 = joinBytes (memRead (s.pc + 1) s) (memRead s.pc s) ∧
    (fetchWord s).2 = (fetchByte (fetchByte s).2).2

/-- A step while Halted changes nothing and returns Halted (R116, decision D23). -/
def Obligations.StepWhileHaltedDoesNothing : Prop :=
  ∀ s : State, s.mode = .halted → step s = .next s ∧ stepReturns s = .halted

/-- When the bytes at `pc` decode to an instruction, a step is `exec` of it on the state with `pc` past its bytes (and
the latch set if that crosses 0xFFFF), then its cycle output, then the overflow halt (R110, R114). -/
def Obligations.StepRunsTheDecodedInstruction : Prop :=
  ∀ (s : State) (i : Instr) (rest : List Byte),
    s.mode = .running →
    decode [memRead s.pc s, memRead (s.pc + 1) s, memRead (s.pc + 2) s] = .ok (i, rest) →
    ∃ u t : State,
      u = { s with
        pc := s.pc + BitVec.ofNat 16 (encode i).length
        pcOverflowed := s.pcOverflowed || decide (65536 ≤ s.pc.toNat + (encode i).length) } ∧
      exec i u = .next t ∧
      step s = .next { t with
        cycleEvents := { instr := i, path := pathOf i u } :: t.cycleEvents
        mode := if t.pcOverflowed then .halted else t.mode
        pcOverflowed := false } ∧
      stepReturns s = .executed

/-- The decode failure (60_exceptions.md R341, decision D20): the fault recorded, Halted, the latch clear, `pc` past
the byte, nothing else changed and no cycle output, reported by the step and by the run. -/
def Obligations.DecodeFailureIsRecordedAndPrecise : Prop :=
  ∀ (s : State) (op : Byte),
    s.mode = .running → memRead s.pc s = op → isImplemented op = false →
    ∃ t : State,
      t = { s with
        fault := some { addr := s.pc, byte := op }
        mode := .halted
        pcOverflowed := false
        pc := s.pc + 1 } ∧
      step s = .next t ∧
      stepReturns s = .decodeFailure { addr := s.pc, byte := op } ∧
      ∀ fuel, runLoop (fuel + 1) s = .returned (.decodeFailure { addr := s.pc, byte := op }) t

/-- The overflow halt (40_execution.md R114, decision D19): an instruction whose bytes reach past 0xFFFF completes,
then the processor halts with the latch clear and no fault recorded, and `pc` is what the instruction left. -/
def Obligations.PcOverflowHaltsAfterTheInstruction : Prop :=
  ∀ (s : State) (i : Instr) (rest : List Byte),
    s.mode = .running →
    decode [memRead s.pc s, memRead (s.pc + 1) s, memRead (s.pc + 2) s] = .ok (i, rest) →
    65536 ≤ s.pc.toNat + (encode i).length →
    ∃ u t : State,
      exec i { s with pc := s.pc + BitVec.ofNat 16 (encode i).length, pcOverflowed := true } = .next u ∧
      step s = .next t ∧ t.mode = .halted ∧ t.pcOverflowed = false ∧ t.fault = s.fault ∧
      t.pc = u.pc ∧ t.main = u.main ∧ t.shadow = u.shadow ∧ t.mem = u.mem

/-- No instruction raises anything once decoded, and each runs to completion (60_exceptions.md R342). That every step
of every state also answers a next state is the model's reading: a decode failure is a next state (log entry 4), a
step on a Halted processor repeats the state (log entry 5), and Fault is empty (log entry 15). -/
def Obligations.EveryInstructionCompletes : Prop :=
  (∀ (i : Instr) (s : State), ∃ t, exec i s = .next t ∧ t.fault = s.fault ∧ t.pcOverflowed = s.pcOverflowed) ∧
  ∀ s : State, ∃ t, step s = .next t

/-! ## Creation, the invariant, runs -/

/-- A machine at creation (70_reset_and_hazards.md R370, decision D21), for every POWER_ON_STATE: Halted, no fault,
the latch clear, the rest as given. That State.reset takes zeros is the model's choice (log entries 1 and 2). -/
def Obligations.CreationLeavesHaltedMachine : Prop :=
  (∀ p : PowerOn,
    (State.create p).mode = .halted ∧ (State.create p).fault = none ∧ (State.create p).pcOverflowed = false ∧
    (State.create p).main = p.main ∧ (State.create p).shadow = p.shadow ∧ (State.create p).pc = p.pc ∧
    (State.create p).mem = p.mem) ∧
  State.reset = State.create PowerOn.zero

/-- The invariant holds at creation, for every power-on state whose memory is in canonical form, and at reset. -/
def Obligations.CreationMeetsInvariant : Prop :=
  (∀ p : PowerOn, p.mem.wf = true → Inv (State.create p)) ∧ Inv State.reset

/-- Every step keeps the invariant: memory canonical and within the address space, the latch clear between steps
(10_state.md R34, decision D19), and a fault record only of an unimplemented byte, on a Halted processor (R33, R341,
decision D20). -/
def Obligations.StepKeepsInvariant : Prop :=
  ∀ s t : State, Inv s → step s = .next t → Inv t

/-- What the host does between steps keeps the invariant: starting a run, loading, every direct write. -/
def Obligations.HostOperationsKeepInvariant : Prop :=
  ∀ s : State, Inv s →
    (∀ address, Inv (startRun address s)) ∧ (∀ g, Inv (loadAt g s).2) ∧ ∀ w, Inv (hostWrite w s)

/-- A run that returns ends in one of three ways (40_execution.md R125), from any machine: with the fault record of a
decode failure (decision D20), or with no fault after a HALT, `pc` one past it, or after an instruction that reached
past 0xFFFF (decision D19). A run returns if some number of steps suffices (log entry 13). -/
def Obligations.RunEndsInThreeWays : Prop :=
  ∀ (address : Word) (s : State) (r : RunReturn) (t : State), RunReturns address s r t →
    t.mode = .halted ∧
    (∀ d, r = .decodeFailure d → t.fault = some d ∧ isImplemented d.byte = false) ∧
    (r = .halted → t.fault = none ∧
      ∃ u i rest, u.mode = .running ∧ step u = .next t ∧
        decode [memRead u.pc u, memRead (u.pc + 1) u, memRead (u.pc + 2) u] = .ok (i, rest) ∧
        ((i = .halt ∧ t.pc = u.pc + 1) ∨ 65536 ≤ u.pc.toNat + (encode i).length))

/-! ## Whole-machine rules -/

/-- The selective flag update (10_state.md R28): a flag outside the affected set, or not listed, is kept; a listed
flag of the set takes its value, the last one listed; the reserved bits are kept. -/
def Obligations.SelectiveFlagUpdate : Prop :=
  ∀ (affected : List Flag) (values : List (Flag × Bool)) (f : Byte),
    (∀ x, x ∉ affected ∨ x ∉ values.map Prod.fst → getFlag x (applyFlags affected values f) = getFlag x f) ∧
    (∀ x v pre post, values = pre ++ (x, v) :: post → x ∉ post.map Prod.fst → x ∈ affected →
      getFlag x (applyFlags affected values f) = v) ∧
    (applyFlags affected values f).getLsbD 3 = f.getLsbD 3 ∧
    (applyFlags affected values f).getLsbD 5 = f.getLsbD 5

/-- No instruction touches a flag outside its affected set, by the table of 10_state.md R30. -/
def Obligations.FlagsOutsideAffectedSetKept : Prop :=
  ∀ (i : Instr) (s : State), ∃ t, exec i s = .next t ∧
    ∀ x, x ∉ affectedFlags i → flag x t = flag x s

/-- The reserved bits of F change only when the whole byte is written (R27, decision D5): by POP AF, EX AF,AF' or the
host. -/
def Obligations.ReservedFlagBitsKept : Prop :=
  (∀ (i : Instr) (s : State), i ≠ .popAF → i ≠ .exAFAF → ∃ t, exec i s = .next t ∧
    t.main.f.getLsbD 3 = s.main.f.getLsbD 3 ∧ t.main.f.getLsbD 5 = s.main.f.getLsbD 5) ∧
  ∀ (w : HostWrite) (s : State), (∀ v, w ≠ .f .main v) →
    (hostWrite w s).main.f.getLsbD 3 = s.main.f.getLsbD 3 ∧
    (hostWrite w s).main.f.getLsbD 5 = s.main.f.getLsbD 5

/-- The shadow registers are reached only by exchange (R23): A' and F' by EX AF,AF', the other six by EXX. -/
def Obligations.ShadowSetReachedOnlyByExchange : Prop :=
  ∀ (i : Instr) (s : State), ∃ t, exec i s = .next t ∧
    (i ≠ .exAFAF → t.shadow.a = s.shadow.a ∧ t.shadow.f = s.shadow.f) ∧
    (i ≠ .exx → ∀ r, r ≠ .a → t.shadow.get r = s.shadow.get r)

/-- No instruction reads or writes SP' (R24, decision D27): a step from a machine with another SP' differs in SP'
alone. -/
def Obligations.ShadowStackPointerHasNoEffect : Prop :=
  ∀ (s : State) (v : Word), ∃ t, step s = .next t ∧ t.shadow.sp = s.shadow.sp ∧
    step { s with shadow := { s.shadow with sp := v } } =
      .next { t with shadow := { t.shadow with sp := v } } ∧
    stepReturns { s with shadow := { s.shadow with sp := v } } = stepReturns s

/-- HALT is the one instruction that writes the mode, and no step leaves Halted (R32, R35). -/
def Obligations.ModeWrittenOnlyByHalt : Prop :=
  (∀ (i : Instr) (s : State), i ≠ .halt → ∃ t, exec i s = .next t ∧ t.mode = s.mode) ∧
  ∀ s t : State, s.mode = .halted → step s = .next t → t.mode = .halted

/-- The instructions that write memory are those of 20_memory.md R58; every other leaves every byte as it was. -/
def Obligations.MemoryWrittenOnlyByStores : Prop :=
  ∀ (i : Instr) (s : State),
    (∀ r, i ≠ .ldAtHLReg r) → (∀ n, i ≠ .ldAtHLImm n) → (∀ nn, i ≠ .ldAbsA nn) → (∀ nn, i ≠ .ldAbsHL nn) →
    (∀ q, i ≠ .push q) → (∀ nn, i ≠ .call nn) → (∀ cc nn, i ≠ .callCond cc nn) → i ≠ .exSPHL →
    ∃ t, exec i s = .next t ∧ MemSame s t

/-- The instructions that write SP and `pc` are those of 10_state.md R36; every other leaves them. -/
def Obligations.StackPointerAndPcWriters : Prop :=
  ∀ (i : Instr) (s : State), ∃ t, exec i s = .next t ∧
    ((∀ nn, i ≠ .call nn) → (∀ cc nn, i ≠ .callCond cc nn) → i ≠ .ret → (∀ cc, i ≠ .retCond cc) →
      ((∀ nn, i ≠ .jp nn) → (∀ cc nn, i ≠ .jpCond cc nn) → t.pc = s.pc) ∧
      ((∀ q, i ≠ .push q) → (∀ q, i ≠ .pop q) → i ≠ .incSP → i ≠ .decSP → t.main.sp = s.main.sp))

/-! ## The ALU -/

/-- add_octets (41_alu.md R131): the sum modulo 256, the carries out of bits 7 and 3, and the overflow, which is that
of the signed sum. -/
def Obligations.AddOctetsResultAndFlags : Prop :=
  ∀ a b : Byte,
    (addOctets a b).result.toNat = (a.toNat + b.toNat) % 256 ∧
    ((addOctets a b).carry = true ↔ a.toNat + b.toNat > 255) ∧
    ((addOctets a b).halfCarry = true ↔ a.toNat % 16 + b.toNat % 16 > 15) ∧
    ((addOctets a b).overflow = true ↔ a.msb = b.msb ∧ (addOctets a b).result.msb ≠ a.msb) ∧
    ((addOctets a b).overflow = true ↔ a.toInt + b.toInt < -128 ∨ 127 < a.toInt + b.toInt)

/-- add_words (R132): the same one width up, with the half-carry out of the low byte. -/
def Obligations.AddWordsResultAndFlags : Prop :=
  ∀ a b : Word,
    (addWords a b).result.toNat = (a.toNat + b.toNat) % 65536 ∧
    ((addWords a b).carry = true ↔ a.toNat + b.toNat > 65535) ∧
    ((addWords a b).halfCarry = true ↔ a.toNat % 256 + b.toNat % 256 > 255) ∧
    ((addWords a b).overflow = true ↔ a.msb = b.msb ∧ (addWords a b).result.msb ≠ a.msb) ∧
    ((addWords a b).overflow = true ↔ a.toInt + b.toInt < -32768 ∨ 32767 < a.toInt + b.toInt)

/-- negate8 is the two's complement, with the four corner cases (R130). -/
def Obligations.NegationIsTwosComplement : Prop :=
  (∀ b : Byte, (negate8 b).toNat = (256 - b.toNat) % 256) ∧
  negate8 0x00 = 0x00 ∧ negate8 0x80 = 0x80 ∧ negate8 0x01 = 0xFF ∧ negate8 0xFF = 0x01

/-- What the flags of a subtraction mean (R136), for a minuend `a` and a subtrahend `t`: C is not a borrow. -/
def Obligations.SubtractionFlagMeanings : Prop :=
  ∀ a t : Byte,
    (addOctets a (negate8 t)).result = a - t ∧
    ((addOctets a (negate8 t)).carry = true ↔ t ≠ 0 ∧ t.toNat ≤ a.toNat) ∧
    ((addOctets a (negate8 t)).halfCarry = true ↔ t.toNat % 16 ≠ 0 ∧ t.toNat % 16 ≤ a.toNat % 16) ∧
    (t ≠ 0x80 →
      ((addOctets a (negate8 t)).overflow = true ↔ a.toInt - t.toInt < -128 ∨ 127 < a.toInt - t.toInt)) ∧
    (t = 0x80 → (addOctets a (negate8 t)).overflow = a.msb)

/-- Parity is 1 for an even number of one bits (R138, decision D6); the eight conditions read their flags (R140,
decision D13). -/
def Obligations.ParityAndConditions : Prop :=
  (∀ v : Byte, parity v = !(v[0] ^^ v[1] ^^ v[2] ^^ v[3] ^^ v[4] ^^ v[5] ^^ v[6] ^^ v[7])) ∧
  ∀ s : State,
    (holds .nz s = true ↔ s.main.f[6] = false) ∧ (holds .z s = true ↔ s.main.f[6] = true) ∧
    (holds .nc s = true ↔ s.main.f[0] = false) ∧ (holds .c s = true ↔ s.main.f[0] = true) ∧
    (holds .po s = true ↔ s.main.f[2] = false) ∧ (holds .pe s = true ↔ s.main.f[2] = true) ∧
    (holds .p s = true ↔ s.main.f[7] = false) ∧ (holds .m s = true ↔ s.main.f[7] = true)

/-! ## 8-bit arithmetic -/

/-- ADD A,r and ADD A,n with `b' = b`, ADC A,r and ADC A,n with `b' = (b + F.C) mod 256` (43_arith8.md R180 to R183,
the carry folded in by decision D9): the sum, every flag, and the frame. -/
def Obligations.AddAndAdcOnAccumulator : Prop :=
  ∀ (s : State) (b : Byte) (k : AluOp) (withC : Bool),
    (k = .add ∧ withC = false ∨ k = .adc ∧ withC = true) →
    (∀ r, encode (.aluReg k r) = [0b10#2 ++ k.code ++ r.code]) ∧
    encode (.aluImm k b) = [0b11#2 ++ k.code ++ 0b110#3, b] ∧
    ∀ i, ((∃ r, readReg r s = b ∧ i = .aluReg k r) ∨ i = .aluImm k b) →
    ∃ t b', exec i s = .next t ∧
      b' = (b.toNat + if withC && flag .c s then 1 else 0) % 256 ∧
      (readReg .a t).toNat = ((readReg .a s).toNat + b') % 256 ∧
      flag .c t = decide ((readReg .a s).toNat + b' > 255) ∧
      flag .h t = decide ((readReg .a s).toNat % 16 + b' % 16 > 15) ∧
      flag .pv t = ((readReg .a s).msb == decide (128 ≤ b') && (readReg .a t).msb != (readReg .a s).msb) ∧
      flag .n t = false ∧
      flag .z t = decide (readReg .a t = 0) ∧
      flag .s t = (readReg .a t).msb ∧
      RegisterFrame [.a] [.s, .z, .h, .pv, .n, .c] s t

/-- SUB r and SUB n with the subtrahend `t = b`, SBC A,r and SBC A,n with `t = (b + F.C) mod 256` (R184 to R187, the
carry folded in by decision D9), the flags by their meanings (41_alu.md R136), and the frame. -/
def Obligations.SubAndSbcOnAccumulator : Prop :=
  ∀ (s : State) (b : Byte) (k : AluOp) (withC : Bool),
    (k = .sub ∧ withC = false ∨ k = .sbc ∧ withC = true) →
    (∀ r, encode (.aluReg k r) = [0b10#2 ++ k.code ++ r.code]) ∧
    encode (.aluImm k b) = [0b11#2 ++ k.code ++ 0b110#3, b] ∧
    ∀ i, ((∃ r, readReg r s = b ∧ i = .aluReg k r) ∨ i = .aluImm k b) →
    ∃ (u : State) (t : Byte), exec i s = .next u ∧
      t = b + (if withC && flag .c s then 1 else 0) ∧
      readReg .a u = readReg .a s - t ∧
      flag .c u = decide (t ≠ 0 ∧ t.toNat ≤ (readReg .a s).toNat) ∧
      flag .h u = decide (t.toNat % 16 ≠ 0 ∧ t.toNat % 16 ≤ (readReg .a s).toNat % 16) ∧
      (t ≠ 0x80 → flag .pv u =
        decide ((readReg .a s).toInt - t.toInt < -128 ∨ 127 < (readReg .a s).toInt - t.toInt)) ∧
      (t = 0x80 → flag .pv u = (readReg .a s).msb) ∧
      flag .n u = true ∧
      flag .z u = decide (readReg .a u = 0) ∧
      flag .s u = (readReg .a u).msb ∧
      RegisterFrame [.a] [.s, .z, .h, .pv, .n, .c] s u

/-- INC r and DEC r, for each of the seven registers (R188, R189): the result, every flag but C, which is kept. That
they write S, Z, H, PV and N is the spec's decision D8, what Z and S are its decision D7 (log entry 9). -/
def Obligations.IncAndDecRegister : Prop :=
  ∀ (r : Reg) (s : State),
    encode (.incReg r) = [0b00#2 ++ r.code ++ 0b100#3] ∧
    (∃ t, exec (.incReg r) s = .next t ∧
      readReg r t = readReg r s + 1 ∧
      flag .h t = decide ((readReg r s).toNat % 16 = 15) ∧
      flag .pv t = decide (readReg r s = 0x7F) ∧
      flag .n t = false ∧
      flag .z t = decide (readReg r s = 0xFF) ∧
      flag .s t = (readReg r t).msb ∧
      RegisterFrame [r] [.s, .z, .h, .pv, .n] s t) ∧
    encode (.decReg r) = [0b00#2 ++ r.code ++ 0b101#3] ∧
    ∃ t, exec (.decReg r) s = .next t ∧
      readReg r t = readReg r s - 1 ∧
      flag .h t = decide ((readReg r s).toNat % 16 ≠ 0) ∧
      flag .pv t = decide (readReg r s = 0x80) ∧
      flag .n t = true ∧
      flag .z t = decide (readReg r s = 0x01) ∧
      flag .s t = (readReg r t).msb ∧
      RegisterFrame [r] [.s, .z, .h, .pv, .n] s t

/-! ## 16-bit arithmetic -/

/-- INC rr and DEC rr, for each of BC, DE, HL and SP (44_arith16.md R210, R211): the pair modulo 65536, no other pair,
not A, no flag. -/
def Obligations.IncAndDecPair : Prop :=
  ∀ (p : RegPair) (s : State),
    encode (.incPair p) = [0b00#2 ++ p.code ++ 0b0011#4] ∧
    (∃ t, exec (.incPair p) s = .next t ∧
      (readPair p t).toNat = ((readPair p s).toNat + 1) % 65536 ∧
      (∀ q, q ≠ p → readPair q t = readPair q s) ∧
      t.main.a = s.main.a ∧ t.main.f = s.main.f ∧ OutsideMainSame s t) ∧
    encode (.decPair p) = [0b00#2 ++ p.code ++ 0b1011#4] ∧
    ∃ t, exec (.decPair p) s = .next t ∧
      (readPair p t).toNat = ((readPair p s).toNat + 65535) % 65536 ∧
      (∀ q, q ≠ p → readPair q t = readPair q s) ∧
      t.main.a = s.main.a ∧ t.main.f = s.main.f ∧ OutsideMainSame s t

/-- ADD HL,rr, for each of BC, DE, HL and SP (R212): the sum, C out of bit 15, H out of bit 7, N clear, nothing else.
-/
def Obligations.AddPairToHL : Prop :=
  ∀ (p : RegPair) (s : State),
    encode (.addHL p) = [0b00#2 ++ p.code ++ 0b1001#4] ∧
    ∃ t, exec (.addHL p) s = .next t ∧
      (readPair .hl t).toNat = ((readPair .hl s).toNat + (readPair p s).toNat) % 65536 ∧
      flag .c t = decide ((readPair .hl s).toNat + (readPair p s).toNat > 65535) ∧
      flag .h t = decide ((readPair .hl s).toNat % 256 + (readPair p s).toNat % 256 > 255) ∧
      flag .n t = false ∧
      RegisterFrame [.h, .l] [.c, .h, .n] s t

/-! ## Bitwise -/

/-- AND, OR and XOR of A with a register or an immediate (45_bitwise.md R230 to R236, decisions D6 and D10). -/
def Obligations.LogicOnAccumulator : Prop :=
  ∀ (s : State) (b : Byte) (k : AluOp) (res : Byte) (half : Bool),
    (k = .and ∧ res = readReg .a s &&& b ∧ half = true ∨
      k = .or ∧ res = readReg .a s ||| b ∧ half = false ∨
      k = .xor ∧ res = readReg .a s ^^^ b ∧ half = false) →
    (∀ r, encode (.aluReg k r) = [0b10#2 ++ k.code ++ r.code]) ∧
    encode (.aluImm k b) = [0b11#2 ++ k.code ++ 0b110#3, b] ∧
    ∀ i, ((∃ r, readReg r s = b ∧ i = .aluReg k r) ∨ i = .aluImm k b) →
    ∃ t, exec i s = .next t ∧
      readReg .a t = res ∧
      flag .c t = false ∧ flag .n t = false ∧ flag .h t = half ∧
      flag .pv t = parity res ∧ flag .z t = decide (res = 0) ∧ flag .s t = res.msb ∧
      RegisterFrame [.a] [.s, .z, .h, .pv, .n, .c] s t

/-- RLCA, SCF, CCF and CPL (R237 to R240, decisions D11 and D12): bit 7 of A into bit 0 and C; C set; C complemented
with H the old C; A complemented with H and N set. -/
def Obligations.RotateCarryAndComplement : Prop :=
  ∀ s : State,
    encode .rlca = [0x07] ∧
    (∃ t, exec .rlca s = .next t ∧
      (∀ k, k < 8 → (readReg .a t).getLsbD k = (readReg .a s).getLsbD ((k + 7) % 8)) ∧
      flag .c t = (readReg .a s).getLsbD 7 ∧ flag .h t = false ∧ flag .n t = false ∧
      RegisterFrame [.a] [.c, .h, .n] s t) ∧
    encode .scf = [0x37] ∧
    (∃ t, exec .scf s = .next t ∧
      flag .c t = true ∧ flag .h t = false ∧ flag .n t = false ∧ RegisterFrame [] [.c, .h, .n] s t) ∧
    encode .ccf = [0x3F] ∧
    (∃ t, exec .ccf s = .next t ∧
      flag .c t = !flag .c s ∧ flag .h t = flag .c s ∧ flag .n t = false ∧
      RegisterFrame [] [.c, .h, .n] s t) ∧
    encode .cpl = [0x2F] ∧
    ∃ t, exec .cpl s = .next t ∧
      (readReg .a t).toNat = 255 - (readReg .a s).toNat ∧ flag .h t = true ∧ flag .n t = true ∧
      RegisterFrame [.a] [.h, .n] s t

/-! ## Exchange -/

/-- EX AF,AF' swaps A with A' and the whole of F with F'; EXX swaps the six other registers; nothing else changes, and
twice is nothing (46_exchange.md R260, R261). -/
def Obligations.ExchangeWithShadowSet : Prop :=
  ∀ s : State,
    encode .exAFAF = [0x08] ∧
    (∃ t, exec .exAFAF s = .next t ∧
      t = { s with
        main := { s.main with a := s.shadow.a, f := s.shadow.f }
        shadow := { s.shadow with a := s.main.a, f := s.main.f } } ∧
      exec .exAFAF t = .next s) ∧
    encode .exx = [0xD9] ∧
    ∃ t, exec .exx s = .next t ∧
      (∀ r, r ≠ .a → t.main.get r = s.shadow.get r ∧ t.shadow.get r = s.main.get r) ∧
      t.main.a = s.main.a ∧ t.main.f = s.main.f ∧ t.main.sp = s.main.sp ∧
      t.shadow.a = s.shadow.a ∧ t.shadow.f = s.shadow.f ∧ t.shadow.sp = s.shadow.sp ∧
      { t with main := s.main, shadow := s.shadow } = s ∧
      exec .exx t = .next s

/-- EX DE,HL swaps the two pairs and changes nothing else (R262). -/
def Obligations.ExchangeDEWithHL : Prop :=
  ∀ s : State,
    encode .exDEHL = [0xEB] ∧
    ∃ t, exec .exDEHL s = .next t ∧
      readPair .de t = readPair .hl s ∧ readPair .hl t = readPair .de s ∧
      RegisterFrame [.d, .e, .h, .l] [] s t ∧ exec .exDEHL t = .next s

/-- EX (SP),HL swaps L with the byte at SP and H with the byte at SP + 1, wherever SP is, and changes nothing else
(R263, decision D17). -/
def Obligations.ExchangeStackTopWithHL : Prop :=
  ∀ s : State,
    encode .exSPHL = [0xE3] ∧
    ∃ t, exec .exSPHL s = .next t ∧
      readReg .l t = memRead s.main.sp s ∧ readReg .h t = memRead (s.main.sp + 1) s ∧
      memRead s.main.sp t = readReg .l s ∧ memRead (s.main.sp + 1) t = readReg .h s ∧
      RegsSameBut [.h, .l] s t ∧ t.main.f = s.main.f ∧ t.main.sp = s.main.sp ∧ t.pc = s.pc ∧
      StoreFrame [s.main.sp, s.main.sp + 1] s t

/-! ## Memory -/

/-- LD r,r' for all 49 register pairs and LD r,n for all seven registers (47_memory.md R280, R283). -/
def Obligations.MoveAndLoadImmediate : Prop :=
  ∀ (dst : Reg) (s : State),
    (∀ src, encode (.ldReg dst src) = [0b01#2 ++ dst.code ++ src.code] ∧
      ∃ t, exec (.ldReg dst src) s = .next t ∧
        readReg dst t = readReg src s ∧ RegisterFrame [dst] [] s t) ∧
    ∀ n, encode (.ldRegImm dst n) = [0b00#2 ++ dst.code ++ 0b110#3, n] ∧
      ∃ t, exec (.ldRegImm dst n) s = .next t ∧ readReg dst t = n ∧ RegisterFrame [dst] [] s t

/-- LD r,(HL) from the old HL, LD A,(nn) and LD HL,(nn), whose high byte is at nn + 1 modulo 2^16 (R281, R284, R286).
-/
def Obligations.LoadsFromMemory : Prop :=
  ∀ s : State,
    (∀ r, encode (.ldRegAtHL r) = [0b01#2 ++ r.code ++ 0b110#3] ∧
      ∃ t, exec (.ldRegAtHL r) s = .next t ∧
        readReg r t = memRead (readPair .hl s) s ∧ RegisterFrame [r] [] s t) ∧
    ∀ nn,
      encode (.ldAAbs nn) = [0x3A, loByte nn, hiByte nn] ∧
      (∃ t, exec (.ldAAbs nn) s = .next t ∧ readReg .a t = memRead nn s ∧ RegisterFrame [.a] [] s t) ∧
      encode (.ldHLAbs nn) = [0x2A, loByte nn, hiByte nn] ∧
      ∃ t, exec (.ldHLAbs nn) s = .next t ∧
        readReg .l t = memRead nn s ∧ readReg .h t = memRead (nn + 1) s ∧ RegisterFrame [.h, .l] [] s t

/-- LD (HL),r, LD (HL),n and LD (nn),A store one byte, at HL or nn, and change nothing else (R282, R285, R288). -/
def Obligations.ByteStores : Prop :=
  ∀ s : State,
    (∀ r, encode (.ldAtHLReg r) = [0b01110#5 ++ r.code] ∧
      ∃ t, exec (.ldAtHLReg r) s = .next t ∧ memRead (readPair .hl s) t = readReg r s ∧
        t.main = s.main ∧ t.pc = s.pc ∧ StoreFrame [readPair .hl s] s t) ∧
    (∀ n, encode (.ldAtHLImm n) = [0x36, n] ∧
      ∃ t, exec (.ldAtHLImm n) s = .next t ∧ memRead (readPair .hl s) t = n ∧
        t.main = s.main ∧ t.pc = s.pc ∧ StoreFrame [readPair .hl s] s t) ∧
    ∀ nn, encode (.ldAbsA nn) = [0x32, loByte nn, hiByte nn] ∧
      ∃ t, exec (.ldAbsA nn) s = .next t ∧ memRead nn t = readReg .a s ∧
        t.main = s.main ∧ t.pc = s.pc ∧ StoreFrame [nn] s t

/-- LD (nn),HL stores L at nn and H at nn + 1 modulo 2^16, and changes nothing else (R287). -/
def Obligations.WordStore : Prop :=
  ∀ (nn : Word) (s : State),
    encode (.ldAbsHL nn) = [0x22, loByte nn, hiByte nn] ∧
    ∃ t, exec (.ldAbsHL nn) s = .next t ∧
      memRead nn t = readReg .l s ∧ memRead (nn + 1) t = readReg .h s ∧
      t.main = s.main ∧ t.pc = s.pc ∧ StoreFrame [nn, nn + 1] s t

/-! ## Control -/

/-- NOP does nothing; HALT sets Halted and nothing else, so a run that ends on it leaves `pc` one past it
(42_control.md R150, R151). -/
def Obligations.NopAndHalt : Prop :=
  ∀ s : State,
    encode .nop = [0x00] ∧ exec .nop s = .next s ∧
    encode .halt = [0x76] ∧ exec .halt s = .next { s with mode := .halted } ∧
    (s.mode = .running → memRead s.pc s = 0x76 →
      ∃ t, step s = .next t ∧ t.mode = .halted ∧ t.pc = s.pc + 1 ∧ t.main = s.main ∧ t.shadow = s.shadow ∧
        t.mem = s.mem ∧ t.fault = s.fault)

/-- JP nn, and JP cc,nn for the eight conditions, taken and not taken (R152, R153): `pc` alone, which holds the
address of the next instruction before. -/
def Obligations.Jumps : Prop :=
  ∀ (nn : Word) (s : State),
    encode (.jp nn) = [0xC3, loByte nn, hiByte nn] ∧
    exec (.jp nn) s = .next { s with pc := nn } ∧
    ∀ cc, encode (.jpCond cc nn) = [0b11#2 ++ cc.code ++ 0b010#3, loByte nn, hiByte nn] ∧
      (holds cc s = true → exec (.jpCond cc nn) s = .next { s with pc := nn }) ∧
      (holds cc s = false → exec (.jpCond cc nn) s = .next s)

/-- CALL nn, and CALL cc,nn for the eight conditions (R154, R155, decision D16): taken, the address of the next
instruction is pushed, high byte at SP - 1 and low byte at SP - 2, and `pc` is nn; not taken, nothing. -/
def Obligations.Calls : Prop :=
  ∀ (nn : Word) (s : State),
    encode (.call nn) = [0xCD, loByte nn, hiByte nn] ∧
    (∀ cc, encode (.callCond cc nn) = [0b11#2 ++ cc.code ++ 0b100#3, loByte nn, hiByte nn]) ∧
    (∀ i, (i = .call nn ∨ ∃ cc, i = .callCond cc nn ∧ holds cc s = true) →
      ∃ t, exec i s = .next t ∧ t.pc = nn ∧ t.main = { s.main with sp := s.main.sp - 2 } ∧
        memRead (s.main.sp - 1) t = hiByte s.pc ∧ memRead (s.main.sp - 2) t = loByte s.pc ∧
        StoreFrame [s.main.sp - 1, s.main.sp - 2] s t) ∧
    ∀ cc, holds cc s = false → exec (.callCond cc nn) s = .next s

/-- RET, and RET cc for the eight conditions (R156, R157): taken, `pc` is the word at SP and SP goes up by 2, modulo
2^16; not taken, nothing. -/
def Obligations.Returns : Prop :=
  ∀ s : State,
    encode .ret = [0xC9] ∧
    (∀ cc, encode (.retCond cc) = [0b11#2 ++ cc.code ++ 0b000#3]) ∧
    (∀ i, (i = .ret ∨ ∃ cc, i = .retCond cc ∧ holds cc s = true) →
      exec i s = .next { s with
        pc := joinBytes (memRead (s.main.sp + 1) s) (memRead s.main.sp s)
        main := { s.main with sp := s.main.sp + 2 } }) ∧
    ∀ cc, holds cc s = false → exec (.retCond cc) s = .next s

/-! ## Stack -/

/-- PUSH qq, for each of BC, DE, HL and AF (48_stack.md R320, R322, decision D14): the high byte at SP - 1, the low
byte at SP - 2, SP down by 2, so the word at the new SP is the pair; nothing else. -/
def Obligations.PushStoresThePair : Prop :=
  ∀ (q : StackPair) (s : State),
    encode (.push q) = [0b11#2 ++ q.code ++ 0b0101#4] ∧
    ∃ t, exec (.push q) s = .next t ∧
      memRead (s.main.sp - 1) t = hiByte (readStackPair q s) ∧
      memRead (s.main.sp - 2) t = loByte (readStackPair q s) ∧
      t.main = { s.main with sp := s.main.sp - 2 } ∧ memReadWord t.main.sp t = readStackPair q s ∧
      t.pc = s.pc ∧ StoreFrame [s.main.sp - 1, s.main.sp - 2] s t

/-- POP qq, for each of BC, DE, HL and AF (R321, R323): the pair is the word at the old SP, SP goes up by 2, the other
registers and, but for POP AF, all of F are kept. That A is the high and F the low byte of AF is the spec's decision
D14 (log entry 9). -/
def Obligations.PopLoadsThePair : Prop :=
  ∀ (q : StackPair) (s : State),
    encode (.pop q) = [0b11#2 ++ q.code ++ 0b0001#4] ∧
    ∃ t, exec (.pop q) s = .next t ∧
      readStackPair q t = joinBytes (memRead (s.main.sp + 1) s) (memRead s.main.sp s) ∧
      (∀ p, p ≠ q → readStackPair p t = readStackPair p s) ∧
      t.main.sp = s.main.sp + 2 ∧ OutsideMainSame s t

/-- A push followed by a pop of the same pair restores every register and SP (R321). -/
def Obligations.PushThenPopRestores : Prop :=
  ∀ (q : StackPair) (s : State), ∃ t u,
    exec (.push q) s = .next t ∧ exec (.pop q) t = .next u ∧ u.main = s.main ∧ u.mem = t.mem

/-! ## Memory access -/

/-- Byte and word access (20_memory.md R51 to R54): a byte write is read back and changes no other byte; a word is
little-endian and wraps at 0xFFFF. -/
def Obligations.MemoryReadAfterWrite : Prop :=
  ∀ (a x v : Word) (b : Byte) (s : State),
    memRead a (memWrite a b s) = b ∧
    (x ≠ a → memRead x (memWrite a b s) = memRead x s) ∧
    memReadWord a s = joinBytes (memRead (a + 1) s) (memRead a s) ∧
    memReadWord a (memWriteWord a v s) = v ∧
    memRead a (memWriteWord a v s) = loByte v ∧
    memRead (a + 1) (memWriteWord a v s) = hiByte v ∧
    (x ≠ a → x ≠ a + 1 → memRead x (memWriteWord a v s) = memRead x s)

/-- Memories in canonical form that read alike are the same list (the model's representation, log entry 12). -/
def Obligations.CanonicalMemoriesAreEqual : Prop :=
  ∀ m m' : Memory, m.wf = true → m'.wf = true → (∀ a, a < 65536 → m.read a = m'.read a) → m = m'

/-- A store is seen by every later fetch of that byte, as long as it is not written again (R63, decision D25): for each
instruction that stores, each form of it, and a host write; CALL cc where it is taken. -/
def Obligations.StoreIsSeenByNextFetch : Prop :=
  ∀ s : State,
    (∀ r, ∃ t, exec (.ldAtHLReg r) s = .next t ∧ FetchesAs (readPair .hl s) (readReg r s) t) ∧
    (∀ n, ∃ t, exec (.ldAtHLImm n) s = .next t ∧ FetchesAs (readPair .hl s) n t) ∧
    (∀ nn, ∃ t, exec (.ldAbsA nn) s = .next t ∧ FetchesAs nn (readReg .a s) t) ∧
    (∀ nn, ∃ t, exec (.ldAbsHL nn) s = .next t ∧
      FetchesAs nn (readReg .l s) t ∧ FetchesAs (nn + 1) (readReg .h s) t) ∧
    (∀ q, ∃ t, exec (.push q) s = .next t ∧
      FetchesAs (s.main.sp - 1) (hiByte (readStackPair q s)) t ∧
      FetchesAs (s.main.sp - 2) (loByte (readStackPair q s)) t) ∧
    (∀ i nn, (i = .call nn ∨ ∃ cc, i = .callCond cc nn ∧ holds cc s = true) →
      ∃ t, exec i s = .next t ∧
        FetchesAs (s.main.sp - 1) (hiByte s.pc) t ∧ FetchesAs (s.main.sp - 2) (loByte s.pc) t) ∧
    (∃ t, exec .exSPHL s = .next t ∧
      FetchesAs s.main.sp (readReg .l s) t ∧ FetchesAs (s.main.sp + 1) (readReg .h s) t) ∧
    ∀ a v, FetchesAs a v (hostWrite (.byte a v) s)

/-! ## The host surface and the cycle output -/

/-- load_at is all or nothing (40_execution.md R120): it fails and writes nothing exactly if the program does not fit;
else every byte is written, no other, and nothing but memory changes (60_exceptions.md R343). -/
def Obligations.LoadAtIsAllOrNothing : Prop :=
  ∀ (g : Image) (s : State),
    ((loadAt g s).1 = true ↔ g.address.toNat + g.program.length ≤ 65536) ∧
    ((loadAt g s).1 = false → (loadAt g s).2 = s) ∧
    ((loadAt g s).1 = true →
      (∀ k (h : k < g.program.length), (loadAt g s).2.mem.read (g.address.toNat + k) = g.program[k]) ∧
      (∀ a, a < g.address.toNat ∨ g.address.toNat + g.program.length ≤ a →
        (loadAt g s).2.mem.read a = s.mem.read a) ∧
      { (loadAt g s).2 with mem := s.mem } = s)

/-- Starting a run is not a reset (70_reset_and_hazards.md R371): `pc`, the mode, the fault record and the latch are
set, everything else stays; run() starts at 0x0000 and load is load_at at 0x0000 (40_execution.md R117 to R119, R121,
decisions D22 and D28). -/
def Obligations.StartingARunIsNotAReset : Prop :=
  ∀ (address : Word) (s : State),
    startRun address s = { s with pc := address, fault := none, pcOverflowed := false, mode := .running } ∧
    (∀ fuel, runAt fuel address s = runLoop fuel (startRun address s)) ∧
    (∀ fuel, run fuel s = runAt fuel 0x0000 s) ∧
    ∀ program, load program s = loadAt { address := 0x0000, program := program } s

/-- What a direct write of the host does (R122, R123): the named element of either register set is written and every
other register, flag, reserved bit and byte, SP and `pc` are as before. That it writes neither the mode, the fault record
nor the latch is read from R33 and R37 (log entry 14); the cycle output is the model's (log entry 6). -/
def Obligations.HostWritesTheNamedElement : Prop :=
  ∀ s : State,
    (∀ bank r v, ∃ t, hostWrite (.reg bank r v) s = t ∧
      (readBank bank t).get r = v ∧ (∀ q, q ≠ r → (readBank bank t).get q = (readBank bank s).get q) ∧
      (readBank bank t).f = (readBank bank s).f ∧ (readBank bank t).sp = (readBank bank s).sp ∧
      BankFrame bank s t) ∧
    (∀ bank v, ∃ t, hostWrite (.f bank v) s = t ∧
      readBank bank t = { readBank bank s with f := v } ∧ BankFrame bank s t) ∧
    (∀ bank x b, ∃ t f, hostWrite (.flag bank x b) s = t ∧
      readBank bank t = { readBank bank s with f := f } ∧
      getFlag x f = b ∧ (∀ y, y ≠ x → getFlag y f = getFlag y (readBank bank s).f) ∧
      f.getLsbD 3 = (readBank bank s).f.getLsbD 3 ∧ f.getLsbD 5 = (readBank bank s).f.getLsbD 5 ∧
      BankFrame bank s t) ∧
    (∀ bank w, ∃ t, hostWrite (.sp bank w) s = t ∧
      readBank bank t = { readBank bank s with sp := w } ∧ BankFrame bank s t) ∧
    (∀ w, hostWrite (.pc w) s = { s with pc := w } ∧ goto w s = { s with pc := w }) ∧
    (∀ a v, ∃ t, hostWrite (.byte a v) s = t ∧
      memRead a t = v ∧ MemSameBut [a] s t ∧ { t with mem := s.mem } = s) ∧
    ∀ w, (hostWrite w s).mode = s.mode ∧ (hostWrite w s).fault = s.fault ∧
      (hostWrite w s).pcOverflowed = s.pcOverflowed ∧ (hostWrite w s).cycleEvents = s.cycleEvents

/-- The cycle hook (70_reset_and_hazards.md R379, decision D31; its form is log entry 6): once per executed
instruction, with the instruction and the path it took, also when the step halts; not on a halted step, not on a
decode failure. -/
def Obligations.CycleHookOncePerInstruction : Prop :=
  ∀ s : State, ∃ t, step s = .next t ∧
    (stepReturns s ≠ .executed → t.cycleEvents = s.cycleEvents) ∧
    (stepReturns s = .executed → ∃ i rest,
      decode [memRead s.pc s, memRead (s.pc + 1) s, memRead (s.pc + 2) s] = .ok (i, rest) ∧
      t.cycleEvents = { instr := i, path := pathOf i s } :: s.cycleEvents ∧
      (∀ cc nn, i = .jpCond cc nn ∨ i = .callCond cc nn ∨ i = .retCond cc →
        pathOf i s = if holds cc s then .taken else .notTaken))

/-- The default of CYCLE_COST is the table of R380 (a parameter's default, decision D24, log entry 7). -/
def Obligations.DefaultCycleCostsAreTheTable : Prop :=
  ∀ (p : Path) (r r' : Reg) (n : Byte) (nn : Word) (cc : Cond) (pp : RegPair) (qq : StackPair) (k : AluOp),
    defaultCycleCost .nop p = 4 ∧ defaultCycleCost .halt p = 4 ∧
    defaultCycleCost (.jp nn) p = 10 ∧
    defaultCycleCost (.jpCond cc nn) .taken = 10 ∧ defaultCycleCost (.jpCond cc nn) .notTaken = 10 ∧
    defaultCycleCost (.call nn) p = 17 ∧
    defaultCycleCost (.callCond cc nn) .taken = 17 ∧ defaultCycleCost (.callCond cc nn) .notTaken = 10 ∧
    defaultCycleCost .ret p = 10 ∧
    defaultCycleCost (.retCond cc) .taken = 11 ∧ defaultCycleCost (.retCond cc) .notTaken = 5 ∧
    defaultCycleCost (.aluReg k r) p = 4 ∧ defaultCycleCost (.aluImm k n) p = 7 ∧
    defaultCycleCost (.incReg r) p = 4 ∧ defaultCycleCost (.decReg r) p = 4 ∧
    defaultCycleCost (.incPair pp) p = 6 ∧ defaultCycleCost (.decPair pp) p = 6 ∧
    defaultCycleCost (.addHL pp) p = 11 ∧
    defaultCycleCost .rlca p = 4 ∧ defaultCycleCost .scf p = 4 ∧
    defaultCycleCost .ccf p = 4 ∧ defaultCycleCost .cpl p = 4 ∧
    defaultCycleCost .exAFAF p = 4 ∧ defaultCycleCost .exx p = 4 ∧ defaultCycleCost .exDEHL p = 4 ∧
    defaultCycleCost .exSPHL p = 19 ∧
    defaultCycleCost (.ldReg r r') p = 4 ∧
    defaultCycleCost (.ldRegAtHL r) p = 7 ∧ defaultCycleCost (.ldAtHLReg r) p = 7 ∧
    defaultCycleCost (.ldRegImm r n) p = 7 ∧ defaultCycleCost (.ldAtHLImm n) p = 10 ∧
    defaultCycleCost (.ldAAbs nn) p = 13 ∧ defaultCycleCost (.ldAbsA nn) p = 13 ∧
    defaultCycleCost (.ldHLAbs nn) p = 16 ∧ defaultCycleCost (.ldAbsHL nn) p = 16 ∧
    defaultCycleCost (.push qq) p = 11 ∧ defaultCycleCost (.pop qq) p = 10
end

