-- ==== Sys2Proof/Laws/State.lean ====
section
/-! SUPPORT. One lemma per field of State per update of State. -/

namespace Sys2Proof.Machine

section Main

variable (s : State) (v : RegSet)

@[simp] theorem State.setMain_main : (s.setMain v).main = v := rfl
@[simp] theorem State.setMain_shadow : (s.setMain v).shadow = s.shadow := rfl
@[simp] theorem State.setMain_pc : (s.setMain v).pc = s.pc := rfl
@[simp] theorem State.setMain_mode : (s.setMain v).mode = s.mode := rfl
@[simp] theorem State.setMain_fault : (s.setMain v).fault = s.fault := rfl
@[simp] theorem State.setMain_pcOverflowed : (s.setMain v).pcOverflowed = s.pcOverflowed := rfl
@[simp] theorem State.setMain_mem : (s.setMain v).mem = s.mem := rfl
@[simp] theorem State.setMain_cycleEvents : (s.setMain v).cycleEvents = s.cycleEvents := rfl

end Main

section Shadow

variable (s : State) (v : RegSet)

@[simp] theorem State.setShadow_main : (s.setShadow v).main = s.main := rfl
@[simp] theorem State.setShadow_shadow : (s.setShadow v).shadow = v := rfl
@[simp] theorem State.setShadow_pc : (s.setShadow v).pc = s.pc := rfl
@[simp] theorem State.setShadow_mode : (s.setShadow v).mode = s.mode := rfl
@[simp] theorem State.setShadow_fault : (s.setShadow v).fault = s.fault := rfl
@[simp] theorem State.setShadow_pcOverflowed : (s.setShadow v).pcOverflowed = s.pcOverflowed := rfl
@[simp] theorem State.setShadow_mem : (s.setShadow v).mem = s.mem := rfl
@[simp] theorem State.setShadow_cycleEvents : (s.setShadow v).cycleEvents = s.cycleEvents := rfl

end Shadow

section Pc

variable (s : State) (v : Word)

@[simp] theorem State.setPc_main : (s.setPc v).main = s.main := rfl
@[simp] theorem State.setPc_shadow : (s.setPc v).shadow = s.shadow := rfl
@[simp] theorem State.setPc_pc : (s.setPc v).pc = v := rfl
@[simp] theorem State.setPc_mode : (s.setPc v).mode = s.mode := rfl
@[simp] theorem State.setPc_fault : (s.setPc v).fault = s.fault := rfl
@[simp] theorem State.setPc_pcOverflowed : (s.setPc v).pcOverflowed = s.pcOverflowed := rfl
@[simp] theorem State.setPc_mem : (s.setPc v).mem = s.mem := rfl
@[simp] theorem State.setPc_cycleEvents : (s.setPc v).cycleEvents = s.cycleEvents := rfl

end Pc

section Mode

variable (s : State) (v : Mode)

@[simp] theorem State.setMode_main : (s.setMode v).main = s.main := rfl
@[simp] theorem State.setMode_shadow : (s.setMode v).shadow = s.shadow := rfl
@[simp] theorem State.setMode_pc : (s.setMode v).pc = s.pc := rfl
@[simp] theorem State.setMode_mode : (s.setMode v).mode = v := rfl
@[simp] theorem State.setMode_fault : (s.setMode v).fault = s.fault := rfl
@[simp] theorem State.setMode_pcOverflowed : (s.setMode v).pcOverflowed = s.pcOverflowed := rfl
@[simp] theorem State.setMode_mem : (s.setMode v).mem = s.mem := rfl
@[simp] theorem State.setMode_cycleEvents : (s.setMode v).cycleEvents = s.cycleEvents := rfl

end Mode

section Fault

variable (s : State) (v : Option DecodeFailure)

@[simp] theorem State.setFault_main : (s.setFault v).main = s.main := rfl
@[simp] theorem State.setFault_shadow : (s.setFault v).shadow = s.shadow := rfl
@[simp] theorem State.setFault_pc : (s.setFault v).pc = s.pc := rfl
@[simp] theorem State.setFault_mode : (s.setFault v).mode = s.mode := rfl
@[simp] theorem State.setFault_fault : (s.setFault v).fault = v := rfl
@[simp] theorem State.setFault_pcOverflowed : (s.setFault v).pcOverflowed = s.pcOverflowed := rfl
@[simp] theorem State.setFault_mem : (s.setFault v).mem = s.mem := rfl
@[simp] theorem State.setFault_cycleEvents : (s.setFault v).cycleEvents = s.cycleEvents := rfl

end Fault

section PcOverflowed

variable (s : State) (v : Bool)

@[simp] theorem State.setPcOverflowed_main : (s.setPcOverflowed v).main = s.main := rfl
@[simp] theorem State.setPcOverflowed_shadow : (s.setPcOverflowed v).shadow = s.shadow := rfl
@[simp] theorem State.setPcOverflowed_pc : (s.setPcOverflowed v).pc = s.pc := rfl
@[simp] theorem State.setPcOverflowed_mode : (s.setPcOverflowed v).mode = s.mode := rfl
@[simp] theorem State.setPcOverflowed_fault : (s.setPcOverflowed v).fault = s.fault := rfl
@[simp] theorem State.setPcOverflowed_pcOverflowed : (s.setPcOverflowed v).pcOverflowed = v := rfl
@[simp] theorem State.setPcOverflowed_mem : (s.setPcOverflowed v).mem = s.mem := rfl
@[simp] theorem State.setPcOverflowed_cycleEvents : (s.setPcOverflowed v).cycleEvents = s.cycleEvents := rfl

end PcOverflowed

section Mem

variable (s : State) (v : Memory)

@[simp] theorem State.setMem_main : (s.setMem v).main = s.main := rfl
@[simp] theorem State.setMem_shadow : (s.setMem v).shadow = s.shadow := rfl
@[simp] theorem State.setMem_pc : (s.setMem v).pc = s.pc := rfl
@[simp] theorem State.setMem_mode : (s.setMem v).mode = s.mode := rfl
@[simp] theorem State.setMem_fault : (s.setMem v).fault = s.fault := rfl
@[simp] theorem State.setMem_pcOverflowed : (s.setMem v).pcOverflowed = s.pcOverflowed := rfl
@[simp] theorem State.setMem_mem : (s.setMem v).mem = v := rfl
@[simp] theorem State.setMem_cycleEvents : (s.setMem v).cycleEvents = s.cycleEvents := rfl

end Mem

section CycleEvents

variable (s : State) (v : List CycleEvent)

@[simp] theorem State.setCycleEvents_main : (s.setCycleEvents v).main = s.main := rfl
@[simp] theorem State.setCycleEvents_shadow : (s.setCycleEvents v).shadow = s.shadow := rfl
@[simp] theorem State.setCycleEvents_pc : (s.setCycleEvents v).pc = s.pc := rfl
@[simp] theorem State.setCycleEvents_mode : (s.setCycleEvents v).mode = s.mode := rfl
@[simp] theorem State.setCycleEvents_fault : (s.setCycleEvents v).fault = s.fault := rfl
@[simp] theorem State.setCycleEvents_pcOverflowed : (s.setCycleEvents v).pcOverflowed = s.pcOverflowed := rfl
@[simp] theorem State.setCycleEvents_mem : (s.setCycleEvents v).mem = s.mem := rfl
@[simp] theorem State.setCycleEvents_cycleEvents : (s.setCycleEvents v).cycleEvents = v := rfl

end CycleEvents

end Sys2Proof.Machine
end

