-- ==== Sys2Proof/Laws/Registers.lean ====
section
/-! SUPPORT. Registers and pairs: reading after writing, and what a register write leaves alone. -/

namespace Sys2Proof

@[simp] theorem hiByte_joinBytes (hi lo : Byte) : hiByte (joinBytes hi lo) = hi := by
  ext i h
  simp only [hiByte, joinBytes, BitVec.getElem_extractLsb', BitVec.getLsbD_append]
  rw [if_neg (by omega)]
  simp [← BitVec.getLsbD_eq_getElem, show 8 + i - 8 = i by omega]

@[simp] theorem loByte_joinBytes (hi lo : Byte) : loByte (joinBytes hi lo) = lo := by
  ext i h
  simp only [loByte, joinBytes, BitVec.getElem_extractLsb', BitVec.getLsbD_append]
  rw [if_pos (by omega)]
  simp [← BitVec.getLsbD_eq_getElem]

@[simp] theorem joinBytes_hiByte_loByte (v : Word) : joinBytes (hiByte v) (loByte v) = v := by
  apply BitVec.eq_of_getLsbD_eq
  intro i h
  simp only [hiByte, loByte, joinBytes, BitVec.getLsbD_append, BitVec.getLsbD_extractLsb']
  by_cases lt : i < 8
  · simp [lt]
  · simp [lt, show 8 + (i - 8) = i by omega, show i - 8 < 8 by omega]

namespace Machine

@[simp] theorem RegSet.get_set_same (m : RegSet) (r : Reg) (v : Byte) : (m.set r v).get r = v := by
  cases r <;> rfl

theorem RegSet.get_set_other (m : RegSet) {r q : Reg} (v : Byte) (h : q ≠ r) : (m.set r v).get q = m.get q := by
  cases r <;> cases q <;> first | rfl | exact absurd rfl h

@[simp] theorem RegSet.set_f (m : RegSet) (r : Reg) (v : Byte) : (m.set r v).f = m.f := by cases r <;> rfl

@[simp] theorem RegSet.set_sp (m : RegSet) (r : Reg) (v : Byte) : (m.set r v).sp = m.sp := by cases r <;> rfl

@[simp] theorem readReg_writeReg_same (r : Reg) (v : Byte) (s : State) : readReg r (writeReg r v s) = v :=
  RegSet.get_set_same _ r v

theorem readReg_writeReg_other {r q : Reg} (v : Byte) (s : State) (h : q ≠ r) :
    readReg q (writeReg r v s) = readReg q s :=
  RegSet.get_set_other _ v h

@[simp] theorem readReg_writeF (r : Reg) (v : Byte) (s : State) : readReg r (writeF v s) = readReg r s := by
  cases r <;> rfl

@[simp] theorem readReg_writeSP (r : Reg) (v : Word) (s : State) : readReg r (writeSP v s) = readReg r s := by
  cases r <;> rfl

@[simp] theorem readPair_writePair_same (p : RegPair) (v : Word) (s : State) :
    readPair p (writePair p v s) = v := by
  cases p <;> simp [readPair, writePair, writeSP]

@[simp] theorem readStackPair_writeStackPair_same (p : StackPair) (v : Word) (s : State) :
    readStackPair p (writeStackPair p v s) = v := by
  cases p <;> simp [readStackPair, writeStackPair, readPair, writePair]

/-- Every write to the main set is of the form `s.setMain m`, so it leaves the rest of the state alone. -/
theorem writePair_eq (p : RegPair) (v : Word) (s : State) : ∃ m, writePair p v s = s.setMain m := by
  cases p <;> exact ⟨_, rfl⟩

theorem writeStackPair_eq (p : StackPair) (v : Word) (s : State) : ∃ m, writeStackPair p v s = s.setMain m := by
  cases p <;> exact ⟨_, rfl⟩

@[simp] theorem writeReg_f (r : Reg) (v : Byte) (s : State) : (writeReg r v s).main.f = s.main.f := by
  simp [writeReg]

@[simp] theorem writeReg_sp (r : Reg) (v : Byte) (s : State) : (writeReg r v s).main.sp = s.main.sp := by
  simp [writeReg]

@[simp] theorem writeF_f (v : Byte) (s : State) : (writeF v s).main.f = v := rfl

@[simp] theorem writeF_sp (v : Byte) (s : State) : (writeF v s).main.sp = s.main.sp := rfl

@[simp] theorem writeSP_sp (v : Word) (s : State) : (writeSP v s).main.sp = v := rfl

@[simp] theorem writeSP_f (v : Word) (s : State) : (writeSP v s).main.f = s.main.f := rfl

@[simp] theorem writeSP_mem (v : Word) (s : State) : (writeSP v s).mem = s.mem := rfl

end Machine

end Sys2Proof
end

