-- ==== Sys2Proof/Laws/Flags.lean ====
section
/-! SUPPORT. The selective update of F: what it writes and what it leaves alone. -/

namespace Sys2Proof.Machine

theorem setFlag_getLsbD (x : Flag) (v : Bool) (f : Byte) (i : Nat) (h : i < 8) :
    (setFlag x v f).getLsbD i = if i = x.bit then v else f.getLsbD i := by
  have hx : x.bit < 8 := by cases x <;> decide
  by_cases hi : i = x.bit
  · subst hi
    cases v <;> simp [setFlag, h]
  · cases v
    · simp [setFlag, h, hi]
    · simp [setFlag, hi, BitVec.getLsbD_twoPow, Ne.symm hi]

@[simp] theorem getFlag_setFlag_same (x : Flag) (v : Bool) (f : Byte) : getFlag x (setFlag x v f) = v := by
  have hx : x.bit < 8 := by cases x <;> decide
  rw [getFlag, setFlag_getLsbD _ _ _ _ hx, if_pos rfl]

theorem Flag.bit_inj {x y : Flag} (h : x.bit = y.bit) : x = y := by
  cases x <;> cases y <;> first | rfl | exact absurd h (by decide)

theorem getFlag_setFlag_other {x y : Flag} (v : Bool) (f : Byte) (h : y ≠ x) :
    getFlag y (setFlag x v f) = getFlag y f := by
  have hy : y.bit < 8 := by cases y <;> decide
  rw [getFlag, setFlag_getLsbD _ _ _ _ hy, if_neg fun e => h (Flag.bit_inj e), getFlag]

/-- A bit that is no affected flag's is kept. -/
theorem applyFlags_getLsbD_other (affected : List Flag) (values : List (Flag × Bool)) (f : Byte) (i : Nat)
    (hi : i < 8) (h : ∀ x ∈ affected, x.bit ≠ i) : (applyFlags affected values f).getLsbD i = f.getLsbD i := by
  induction values generalizing f with
  | nil => rfl
  | cons e values ih =>
    obtain ⟨x, v⟩ := e
    rw [applyFlags, ih]
    split
    · rw [setFlag_getLsbD _ _ _ _ hi, if_neg (Ne.symm (h x ‹_›))]
    · rfl

/-- The reserved bits of F are in no affected set. -/
theorem applyFlags_reserved (affected : List Flag) (values : List (Flag × Bool)) (f : Byte) :
    (applyFlags affected values f).getLsbD 3 = f.getLsbD 3 ∧
      (applyFlags affected values f).getLsbD 5 = f.getLsbD 5 :=
  ⟨applyFlags_getLsbD_other _ _ _ _ (by decide) fun x _ => by cases x <;> decide,
    applyFlags_getLsbD_other _ _ _ _ (by decide) fun x _ => by cases x <;> decide⟩

/-- A flag that no later pair names keeps what the first pair for it wrote. -/
theorem getFlag_applyFlags_cons (affected : List Flag) (x : Flag) (v : Bool) (values : List (Flag × Bool))
    (f : Byte) (y : Flag) :
    getFlag y (applyFlags affected ((x, v) :: values) f) =
      getFlag y (applyFlags affected values (if x ∈ affected then setFlag x v f else f)) := rfl

@[simp] theorem readReg_updateFlags (r : Reg) (affected : List Flag) (values : List (Flag × Bool)) (s : State) :
    readReg r (updateFlags affected values s) = readReg r s :=
  readReg_writeF r _ s

@[simp] theorem updateFlags_f (affected : List Flag) (values : List (Flag × Bool)) (s : State) :
    (updateFlags affected values s).main.f = applyFlags affected values s.main.f := rfl

@[simp] theorem updateFlags_sp (affected : List Flag) (values : List (Flag × Bool)) (s : State) :
    (updateFlags affected values s).main.sp = s.main.sp := rfl

/-- Arithmetic on a register changes the main set only. -/
theorem operateOnRegister_eq (op : ArithOp) (r : Reg) (b : Byte) (affected : List Flag) (s : State) :
    ∃ m, operateOnRegister op r b affected s = s.setMain m := ⟨_, rfl⟩

/-- Arithmetic on a pair changes the main set only. -/
theorem operateOnRegisterPair_eq (op : PairOp) (p : RegPair) (w : Word) (affected : List Flag) (s : State) :
    ∃ m, operateOnRegisterPair op p w affected s = s.setMain m := by
  cases p <;> exact ⟨_, rfl⟩

/-- A logical operation changes the main set only. -/
theorem operateLogic_eq (op : LogicOp) (b : Byte) (s : State) : ∃ m, operateLogic op b s = s.setMain m := ⟨_, rfl⟩

end Sys2Proof.Machine
end

