-- ==== Sys2Proof/Laws/Memory.lean ====
section
/-! SUPPORT. The memory list: what a byte reads as after a write, and that every operation keeps the canonical
form. -/

namespace Sys2Proof.Machine

/-! ## Reading after a write -/

@[simp] theorem Memory.read_nil (a : Nat) : Memory.read [] a = Config.unwrittenByte := rfl

theorem Memory.dropCell_cons (m : Memory) (k a : Nat) (v : Byte) :
    Memory.dropCell ((k, v) :: m) a = if k = a then Memory.dropCell m a else (k, v) :: Memory.dropCell m a := by
  by_cases hk : k = a <;> simp [Memory.dropCell, hk]

theorem Memory.read_dropCell (m : Memory) (a x : Nat) :
    (m.dropCell a).read x = if x = a then Config.unwrittenByte else m.read x := by
  induction m with
  | nil => simp [Memory.dropCell]
  | cons e m ih =>
    obtain ⟨k, v⟩ := e
    rw [Memory.dropCell_cons, Memory.read]
    by_cases hk : k = a
    · rw [if_pos hk, ih]
      by_cases hx : x = a
      · simp [hx]
      · rw [if_neg hx, if_neg hx, if_neg fun e => hx (e.symm.trans hk)]
    · rw [if_neg hk, Memory.read, ih]
      by_cases hx : k = x
      · subst hx; simp [hk]
      · rw [if_neg hx, if_neg hx]

theorem Memory.read_putCell (m : Memory) (a x : Nat) (v : Byte) (fresh : ∀ e ∈ m, e.1 ≠ a) :
    (m.putCell a v).read x = if x = a then v else m.read x := by
  induction m with
  | nil => simp [Memory.putCell, Memory.read, eq_comm]
  | cons e m ih =>
    obtain ⟨k, w⟩ := e
    have hk : k ≠ a := fresh (k, w) (by simp)
    have ih := ih fun e h => fresh e (by simp [h])
    by_cases lt : a < k
    · rw [Memory.putCell, if_pos lt, Memory.read]
      by_cases hx : x = a
      · simp [hx]
      · rw [if_neg (Ne.symm hx), if_neg hx]
    · rw [Memory.putCell, if_neg lt, Memory.read, Memory.read, ih]
      by_cases hx : k = x
      · subst hx; simp [hk]
      · rw [if_neg hx, if_neg hx]

theorem Memory.dropCell_fresh (m : Memory) (a : Nat) : ∀ e ∈ m.dropCell a, e.1 ≠ a := by
  intro e h
  simpa using (List.mem_filter.mp h).2

/-- The one law of reading after writing. -/
theorem Memory.read_write (m : Memory) (a x : Nat) (v : Byte) :
    (m.write a v).read x = if x = a then v else m.read x := by
  by_cases hv : v = Config.unwrittenByte
  · subst hv; simp [Memory.write, Memory.read_dropCell]
  · simp only [Memory.write, hv, if_false, Memory.read_putCell _ _ _ _ (m.dropCell_fresh a), Memory.read_dropCell]
    split <;> rfl

@[simp] theorem Memory.read_write_same (m : Memory) (a : Nat) (v : Byte) : (m.write a v).read a = v := by
  simp [Memory.read_write]

theorem Memory.read_write_other (m : Memory) {a x : Nat} (v : Byte) (h : x ≠ a) :
    (m.write a v).read x = m.read x := by
  simp [Memory.read_write, h]

/-! ## The canonical form -/

theorem Memory.wf_iff (m : Memory) :
    m.wf = true ↔
      List.Pairwise (fun x y => x.1 < y.1) m ∧ ∀ e ∈ m, e.1 < Config.addressSpace ∧ e.2 ≠ Config.unwrittenByte := by
  simp [Memory.wf]

theorem Memory.nil_wf : Memory.wf [] = true := by decide

theorem Memory.dropCell_wf {m : Memory} (h : m.wf = true) (a : Nat) : (m.dropCell a).wf = true := by
  rw [Memory.wf_iff] at h ⊢
  exact ⟨h.1.filter _, fun e he => h.2 e (List.mem_filter.mp he).1⟩

theorem Memory.mem_putCell {m : Memory} {a : Nat} {v : Byte} {e : Host.Cell} :
    e ∈ m.putCell a v ↔ e = (a, v) ∨ e ∈ m := by
  induction m with
  | nil => simp [Memory.putCell]
  | cons c m ih =>
    obtain ⟨k, w⟩ := c
    by_cases lt : a < k
    · simp [Memory.putCell, lt]
    · simp only [Memory.putCell, lt, if_false, List.mem_cons, ih]
      tauto

theorem Memory.putCell_rising {m : Memory} {a : Nat} {v : Byte} (h : List.Pairwise (fun x y => x.1 < y.1) m)
    (fresh : ∀ e ∈ m, e.1 ≠ a) : List.Pairwise (fun x y => x.1 < y.1) (m.putCell a v) := by
  induction m with
  | nil => simp [Memory.putCell]
  | cons c m ih =>
    obtain ⟨k, w⟩ := c
    obtain ⟨hk, hm⟩ := List.pairwise_cons.mp h
    have ne : k ≠ a := fresh (k, w) (by simp)
    by_cases lt : a < k
    · simp only [Memory.putCell, lt, if_true]
      refine List.pairwise_cons.mpr ⟨?_, h⟩
      intro e he
      rcases List.mem_cons.mp he with rfl | he
      · exact lt
      · exact Nat.lt_trans lt (hk e he)
    · simp only [Memory.putCell, lt, if_false]
      refine List.pairwise_cons.mpr ⟨?_, ih hm fun e he => fresh e (by simp [he])⟩
      intro e he
      rcases Memory.mem_putCell.mp he with rfl | he
      · exact Nat.lt_of_le_of_ne (Nat.le_of_not_lt lt) ne
      · exact hk e he

/-- A write within the address space keeps the canonical form. -/
theorem Memory.write_wf {m : Memory} (h : m.wf = true) {a : Nat} (ha : a < Config.addressSpace) (v : Byte) :
    (m.write a v).wf = true := by
  by_cases hv : v = Config.unwrittenByte
  · simpa [Memory.write, hv] using Memory.dropCell_wf h a
  · have he := Memory.dropCell_wf h a
    simp only [Memory.write, hv, if_false]
    rw [Memory.wf_iff] at he ⊢
    refine ⟨Memory.putCell_rising he.1 (m.dropCell_fresh a), ?_⟩
    intro e h
    rcases Memory.mem_putCell.mp h with rfl | h
    · exact ⟨ha, hv⟩
    · exact he.2 e h

theorem word_lt (a : Word) : a.toNat < Config.addressSpace := a.isLt

/-! ## The machine's accesses -/

theorem memRead_memWrite (a x : Word) (v : Byte) (s : State) :
    memRead x (memWrite a v s) = if x = a then v else memRead x s := by
  simp [memRead, memWrite, Memory.read_write, BitVec.toNat_inj]

/-- What a byte write does to memory, read by any number. -/
theorem memWrite_read (a : Word) (v : Byte) (s : State) (x : Nat) :
    (memWrite a v s).mem.read x = if x = a.toNat then v else s.mem.read x := by
  simp [memWrite, Memory.read_write]

/-- What a word write does to memory, read by any number. -/
theorem memWriteWord_read (a v : Word) (s : State) (x : Nat) :
    (memWriteWord a v s).mem.read x =
      if x = (a + 1).toNat then hiByte v else if x = a.toNat then loByte v else s.mem.read x := by
  simp [memWriteWord, memWrite_read]

theorem memWrite_wf {s : State} (h : s.mem.wf = true) (a : Word) (v : Byte) : (memWrite a v s).mem.wf = true :=
  Memory.write_wf h (word_lt a) v

theorem memWriteWord_wf {s : State} (h : s.mem.wf = true) (a v : Word) : (memWriteWord a v s).mem.wf = true :=
  memWrite_wf (memWrite_wf h _ _) _ _

/-- The memory after reset is in the canonical form. -/
theorem reset_memory_wf : State.reset.mem.wf = true := Memory.nil_wf

section Fields

variable (a : Word) (b : Byte) (v : Word) (s : State)

@[simp] theorem memWrite_main : (memWrite a b s).main = s.main := rfl
@[simp] theorem memWrite_shadow : (memWrite a b s).shadow = s.shadow := rfl
@[simp] theorem memWrite_pc : (memWrite a b s).pc = s.pc := rfl
@[simp] theorem memWrite_mode : (memWrite a b s).mode = s.mode := rfl
@[simp] theorem memWrite_fault : (memWrite a b s).fault = s.fault := rfl
@[simp] theorem memWrite_pcOverflowed : (memWrite a b s).pcOverflowed = s.pcOverflowed := rfl
@[simp] theorem memWrite_cycleEvents : (memWrite a b s).cycleEvents = s.cycleEvents := rfl
@[simp] theorem memWriteWord_main : (memWriteWord a v s).main = s.main := rfl
@[simp] theorem memWriteWord_shadow : (memWriteWord a v s).shadow = s.shadow := rfl
@[simp] theorem memWriteWord_pc : (memWriteWord a v s).pc = s.pc := rfl
@[simp] theorem memWriteWord_mode : (memWriteWord a v s).mode = s.mode := rfl
@[simp] theorem memWriteWord_fault : (memWriteWord a v s).fault = s.fault := rfl
@[simp] theorem memWriteWord_pcOverflowed : (memWriteWord a v s).pcOverflowed = s.pcOverflowed := rfl
@[simp] theorem memWriteWord_cycleEvents : (memWriteWord a v s).cycleEvents = s.cycleEvents := rfl

end Fields

end Sys2Proof.Machine
end

