-- ==== Sys2Proof/Laws/Ops.lean ====
section
/-! SUPPORT. What the shared operations of a step can do: the fetch of an instruction, the stack primitives, the
decode failure and the end of a step, each said once. -/

namespace Sys2Proof.Machine

/-! ## Fetching -/

/-- `pc` and the latch after one fetched byte. -/
theorem fetchByte_eq (s : State) :
    fetchByte s =
      (memRead s.pc s, (s.setPc (s.pc + 1)).setPcOverflowed (s.pcOverflowed || decide (s.pc = 0xFFFF))) := by
  by_cases h : s.pc = 0xFFFF
  · simp only [fetchByte, h, if_true, decide_true, Bool.or_true]
    rfl
  · simp only [fetchByte, h, if_false, decide_false, Bool.or_false]
    rfl

@[simp] theorem memRead_fetchByte (x : Word) (s : State) : memRead x (fetchByte s).2 = memRead x s := by
  rw [fetchByte_eq]; rfl

/-- A fetch changes `pc` and the latch only. -/
theorem fetchByte_only (s : State) : ∃ pc latch, (fetchByte s).2 = (s.setPc pc).setPcOverflowed latch := by
  rw [fetchByte_eq]; exact ⟨_, _, rfl⟩

/-- The fetch of an instruction changes `pc` and the latch only, whatever it ends in. -/
theorem fetchInstr_only (s : State) :
    (∃ i pc latch, fetchInstr s = .instr i ((s.setPc pc).setPcOverflowed latch)) ∨
      ∃ pc latch, formatOf (memRead s.pc s) = .unimplemented ∧
        fetchInstr s = .failed s.pc (memRead s.pc s) ((s.setPc pc).setPcOverflowed latch) := by
  simp only [fetchInstr, fetchWord, fetchByte_eq]
  cases formatOf (memRead s.pc s) with
  | f1 i => exact .inl ⟨_, _, _, rfl⟩
  | f2 mk => exact .inl ⟨_, _, _, rfl⟩
  | f3 mk => exact .inl ⟨_, _, _, rfl⟩
  | unimplemented => exact .inr ⟨_, _, rfl, rfl⟩

/-! ## The stack -/

@[simp] theorem push16_sp (v : Word) (s : State) : (push16 v s).main.sp = s.main.sp - 2 := rfl

@[simp] theorem push16_pc (v : Word) (s : State) : (push16 v s).pc = s.pc := rfl

@[simp] theorem readReg_push16 (r : Reg) (v : Word) (s : State) : readReg r (push16 v s) = readReg r s := by
  cases r <;> rfl

/-- What a push does to memory, read by any number. -/
theorem push16_read (v : Word) (s : State) (x : Nat) :
    (push16 v s).mem.read x =
      if x = (s.main.sp - 2).toNat then loByte v
      else if x = (s.main.sp - 1).toNat then hiByte v else s.mem.read x := by
  simp [push16, memWrite_read]

theorem push16_wf {s : State} (h : s.mem.wf = true) (v : Word) : (push16 v s).mem.wf = true :=
  memWrite_wf (memWrite_wf h _ _) _ _

/-- A push changes SP and memory only. -/
theorem push16_only (v : Word) (s : State) :
    ∃ m, push16 v s = (s.setMem m).setMain { s.main with sp := s.main.sp - 2 } := ⟨_, rfl⟩

/-- A pop changes SP only. -/
theorem pop16_only (s : State) : (pop16 s).2 = s.setMain { s.main with sp := s.main.sp + 2 } := rfl

/-! ## The decode failure and the end of a step -/

section Fields

variable (addr : Word) (op : Byte) (i : Instr) (p : Path) (s : State)

@[simp] theorem raiseDecodeFailure_main : (raiseDecodeFailure addr op s).main = s.main := rfl
@[simp] theorem raiseDecodeFailure_shadow : (raiseDecodeFailure addr op s).shadow = s.shadow := rfl
@[simp] theorem raiseDecodeFailure_pc : (raiseDecodeFailure addr op s).pc = s.pc := rfl
@[simp] theorem raiseDecodeFailure_mode : (raiseDecodeFailure addr op s).mode = .halted := rfl
@[simp] theorem raiseDecodeFailure_fault :
    (raiseDecodeFailure addr op s).fault = some { addr := addr, byte := op } := rfl
@[simp] theorem raiseDecodeFailure_pcOverflowed : (raiseDecodeFailure addr op s).pcOverflowed = false := rfl
@[simp] theorem raiseDecodeFailure_mem : (raiseDecodeFailure addr op s).mem = s.mem := rfl
@[simp] theorem raiseDecodeFailure_cycleEvents : (raiseDecodeFailure addr op s).cycleEvents = s.cycleEvents := rfl

@[simp] theorem endStep_main : (endStep i p s).main = s.main := by unfold endStep overflowHalt; split <;> rfl
@[simp] theorem endStep_shadow : (endStep i p s).shadow = s.shadow := by unfold endStep overflowHalt; split <;> rfl
@[simp] theorem endStep_pc : (endStep i p s).pc = s.pc := by unfold endStep overflowHalt; split <;> rfl
@[simp] theorem endStep_fault : (endStep i p s).fault = s.fault := by unfold endStep overflowHalt; split <;> rfl
@[simp] theorem endStep_mem : (endStep i p s).mem = s.mem := by unfold endStep overflowHalt; split <;> rfl
@[simp] theorem endStep_pcOverflowed : (endStep i p s).pcOverflowed = false := by
  unfold endStep overflowHalt
  split
  · rfl
  · exact Bool.eq_false_of_not_eq_true ‹_›
@[simp] theorem endStep_cycleEvents :
    (endStep i p s).cycleEvents = { instr := i, path := p } :: s.cycleEvents := by
  unfold endStep overflowHalt; split <;> rfl
theorem endStep_mode : (endStep i p s).mode = if s.pcOverflowed then .halted else s.mode := by
  cases h : s.pcOverflowed <;> simp [endStep, overflowHalt, emitCycles, h]

end Fields

end Sys2Proof.Machine
end

