-- ==== Sys2Proof/Laws/Fields.lean ====
section
/-! SUPPORT. What each shared operation leaves alone, one lemma per field. -/

namespace Sys2Proof.Machine

section WriteRegFields

variable (r : Reg) (v : Byte) (s : State)

@[simp] theorem writeReg_shadow : (writeReg r v s).shadow = s.shadow := rfl
@[simp] theorem writeReg_pc : (writeReg r v s).pc = s.pc := rfl
@[simp] theorem writeReg_mode : (writeReg r v s).mode = s.mode := rfl
@[simp] theorem writeReg_fault : (writeReg r v s).fault = s.fault := rfl
@[simp] theorem writeReg_pcOverflowed : (writeReg r v s).pcOverflowed = s.pcOverflowed := rfl
@[simp] theorem writeReg_mem : (writeReg r v s).mem = s.mem := rfl
@[simp] theorem writeReg_cycleEvents : (writeReg r v s).cycleEvents = s.cycleEvents := rfl

end WriteRegFields

section WriteFFields

variable (v : Byte) (s : State)

@[simp] theorem writeF_shadow : (writeF v s).shadow = s.shadow := rfl
@[simp] theorem writeF_pc : (writeF v s).pc = s.pc := rfl
@[simp] theorem writeF_mode : (writeF v s).mode = s.mode := rfl
@[simp] theorem writeF_fault : (writeF v s).fault = s.fault := rfl
@[simp] theorem writeF_pcOverflowed : (writeF v s).pcOverflowed = s.pcOverflowed := rfl
@[simp] theorem writeF_mem : (writeF v s).mem = s.mem := rfl
@[simp] theorem writeF_cycleEvents : (writeF v s).cycleEvents = s.cycleEvents := rfl

end WriteFFields

section WriteSPFields

variable (v : Word) (s : State)

@[simp] theorem writeSP_shadow : (writeSP v s).shadow = s.shadow := rfl
@[simp] theorem writeSP_pc : (writeSP v s).pc = s.pc := rfl
@[simp] theorem writeSP_mode : (writeSP v s).mode = s.mode := rfl
@[simp] theorem writeSP_fault : (writeSP v s).fault = s.fault := rfl
@[simp] theorem writeSP_pcOverflowed : (writeSP v s).pcOverflowed = s.pcOverflowed := rfl
@[simp] theorem writeSP_cycleEvents : (writeSP v s).cycleEvents = s.cycleEvents := rfl

end WriteSPFields

section WritePairFields

variable (p : RegPair) (v : Word) (s : State)

@[simp] theorem writePair_shadow : (writePair p v s).shadow = s.shadow := by cases p <;> rfl
@[simp] theorem writePair_pc : (writePair p v s).pc = s.pc := by cases p <;> rfl
@[simp] theorem writePair_mode : (writePair p v s).mode = s.mode := by cases p <;> rfl
@[simp] theorem writePair_fault : (writePair p v s).fault = s.fault := by cases p <;> rfl
@[simp] theorem writePair_pcOverflowed : (writePair p v s).pcOverflowed = s.pcOverflowed := by cases p <;> rfl
@[simp] theorem writePair_mem : (writePair p v s).mem = s.mem := by cases p <;> rfl
@[simp] theorem writePair_cycleEvents : (writePair p v s).cycleEvents = s.cycleEvents := by cases p <;> rfl

end WritePairFields

section WriteStackPairFields

variable (p : StackPair) (v : Word) (s : State)

@[simp] theorem writeStackPair_shadow : (writeStackPair p v s).shadow = s.shadow := by cases p <;> rfl
@[simp] theorem writeStackPair_pc : (writeStackPair p v s).pc = s.pc := by cases p <;> rfl
@[simp] theorem writeStackPair_mode : (writeStackPair p v s).mode = s.mode := by cases p <;> rfl
@[simp] theorem writeStackPair_fault : (writeStackPair p v s).fault = s.fault := by cases p <;> rfl
@[simp] theorem writeStackPair_pcOverflowed : (writeStackPair p v s).pcOverflowed = s.pcOverflowed := by cases p <;> rfl
@[simp] theorem writeStackPair_mem : (writeStackPair p v s).mem = s.mem := by cases p <;> rfl
@[simp] theorem writeStackPair_cycleEvents : (writeStackPair p v s).cycleEvents = s.cycleEvents := by cases p <;> rfl

end WriteStackPairFields

section UpdateFlagsFields

variable (x : List Flag) (v : List (Flag × Bool)) (s : State)

@[simp] theorem updateFlags_shadow : (updateFlags x v s).shadow = s.shadow := rfl
@[simp] theorem updateFlags_pc : (updateFlags x v s).pc = s.pc := rfl
@[simp] theorem updateFlags_mode : (updateFlags x v s).mode = s.mode := rfl
@[simp] theorem updateFlags_fault : (updateFlags x v s).fault = s.fault := rfl
@[simp] theorem updateFlags_pcOverflowed : (updateFlags x v s).pcOverflowed = s.pcOverflowed := rfl
@[simp] theorem updateFlags_mem : (updateFlags x v s).mem = s.mem := rfl
@[simp] theorem updateFlags_cycleEvents : (updateFlags x v s).cycleEvents = s.cycleEvents := rfl

end UpdateFlagsFields

section OperateOnRegisterFields

variable (op : ArithOp) (r : Reg) (b : Byte) (x : List Flag) (s : State)

@[simp] theorem operateOnRegister_shadow : (operateOnRegister op r b x s).shadow = s.shadow := by
  unfold operateOnRegister; simp only [updateFlags_shadow, writeReg_shadow]
@[simp] theorem operateOnRegister_pc : (operateOnRegister op r b x s).pc = s.pc := by
  unfold operateOnRegister; simp only [updateFlags_pc, writeReg_pc]
@[simp] theorem operateOnRegister_mode : (operateOnRegister op r b x s).mode = s.mode := by
  unfold operateOnRegister; simp only [updateFlags_mode, writeReg_mode]
@[simp] theorem operateOnRegister_fault : (operateOnRegister op r b x s).fault = s.fault := by
  unfold operateOnRegister; simp only [updateFlags_fault, writeReg_fault]
@[simp] theorem operateOnRegister_pcOverflowed : (operateOnRegister op r b x s).pcOverflowed = s.pcOverflowed := by
  unfold operateOnRegister; simp only [updateFlags_pcOverflowed, writeReg_pcOverflowed]
@[simp] theorem operateOnRegister_mem : (operateOnRegister op r b x s).mem = s.mem := by
  unfold operateOnRegister; simp only [updateFlags_mem, writeReg_mem]
@[simp] theorem operateOnRegister_cycleEvents : (operateOnRegister op r b x s).cycleEvents = s.cycleEvents := by
  unfold operateOnRegister; simp only [updateFlags_cycleEvents, writeReg_cycleEvents]

end OperateOnRegisterFields

section OperateOnRegisterPairFields

variable (op : PairOp) (p : RegPair) (w : Word) (x : List Flag) (s : State)

@[simp] theorem operateOnRegisterPair_shadow : (operateOnRegisterPair op p w x s).shadow = s.shadow := by
  unfold operateOnRegisterPair; simp only [updateFlags_shadow, writePair_shadow]
@[simp] theorem operateOnRegisterPair_pc : (operateOnRegisterPair op p w x s).pc = s.pc := by
  unfold operateOnRegisterPair; simp only [updateFlags_pc, writePair_pc]
@[simp] theorem operateOnRegisterPair_mode : (operateOnRegisterPair op p w x s).mode = s.mode := by
  unfold operateOnRegisterPair; simp only [updateFlags_mode, writePair_mode]
@[simp] theorem operateOnRegisterPair_fault : (operateOnRegisterPair op p w x s).fault = s.fault := by
  unfold operateOnRegisterPair; simp only [updateFlags_fault, writePair_fault]
@[simp] theorem operateOnRegisterPair_pcOverflowed : (operateOnRegisterPair op p w x s).pcOverflowed = s.pcOverflowed := by
  unfold operateOnRegisterPair; simp only [updateFlags_pcOverflowed, writePair_pcOverflowed]
@[simp] theorem operateOnRegisterPair_mem : (operateOnRegisterPair op p w x s).mem = s.mem := by
  unfold operateOnRegisterPair; simp only [updateFlags_mem, writePair_mem]
@[simp] theorem operateOnRegisterPair_cycleEvents : (operateOnRegisterPair op p w x s).cycleEvents = s.cycleEvents := by
  unfold operateOnRegisterPair; simp only [updateFlags_cycleEvents, writePair_cycleEvents]

end OperateOnRegisterPairFields

section OperateLogicFields

variable (op : LogicOp) (b : Byte) (s : State)

@[simp] theorem operateLogic_shadow : (operateLogic op b s).shadow = s.shadow := by
  unfold operateLogic; simp only [updateFlags_shadow, writeReg_shadow]
@[simp] theorem operateLogic_pc : (operateLogic op b s).pc = s.pc := by
  unfold operateLogic; simp only [updateFlags_pc, writeReg_pc]
@[simp] theorem operateLogic_mode : (operateLogic op b s).mode = s.mode := by
  unfold operateLogic; simp only [updateFlags_mode, writeReg_mode]
@[simp] theorem operateLogic_fault : (operateLogic op b s).fault = s.fault := by
  unfold operateLogic; simp only [updateFlags_fault, writeReg_fault]
@[simp] theorem operateLogic_pcOverflowed : (operateLogic op b s).pcOverflowed = s.pcOverflowed := by
  unfold operateLogic; simp only [updateFlags_pcOverflowed, writeReg_pcOverflowed]
@[simp] theorem operateLogic_mem : (operateLogic op b s).mem = s.mem := by
  unfold operateLogic; simp only [updateFlags_mem, writeReg_mem]
@[simp] theorem operateLogic_cycleEvents : (operateLogic op b s).cycleEvents = s.cycleEvents := by
  unfold operateLogic; simp only [updateFlags_cycleEvents, writeReg_cycleEvents]

end OperateLogicFields

section Push16Fields

variable (v : Word) (s : State)

@[simp] theorem push16_shadow : (push16 v s).shadow = s.shadow := rfl
@[simp] theorem push16_mode : (push16 v s).mode = s.mode := rfl
@[simp] theorem push16_fault : (push16 v s).fault = s.fault := rfl
@[simp] theorem push16_pcOverflowed : (push16 v s).pcOverflowed = s.pcOverflowed := rfl
@[simp] theorem push16_cycleEvents : (push16 v s).cycleEvents = s.cycleEvents := rfl

end Push16Fields

section FetchByteFields

variable (s : State)

@[simp] theorem fetchByte_main : (fetchByte s).2.main = s.main := by rw [fetchByte_eq]; rfl
@[simp] theorem fetchByte_shadow : (fetchByte s).2.shadow = s.shadow := by rw [fetchByte_eq]; rfl
@[simp] theorem fetchByte_mode : (fetchByte s).2.mode = s.mode := by rw [fetchByte_eq]; rfl
@[simp] theorem fetchByte_fault : (fetchByte s).2.fault = s.fault := by rw [fetchByte_eq]; rfl
@[simp] theorem fetchByte_mem : (fetchByte s).2.mem = s.mem := by rw [fetchByte_eq]; rfl
@[simp] theorem fetchByte_cycleEvents : (fetchByte s).2.cycleEvents = s.cycleEvents := by rw [fetchByte_eq]; rfl

end FetchByteFields

section Pop16Fields

variable (s : State)

@[simp] theorem pop16_shadow : (pop16 s).2.shadow = s.shadow := rfl
@[simp] theorem pop16_pc : (pop16 s).2.pc = s.pc := rfl
@[simp] theorem pop16_mode : (pop16 s).2.mode = s.mode := rfl
@[simp] theorem pop16_fault : (pop16 s).2.fault = s.fault := rfl
@[simp] theorem pop16_pcOverflowed : (pop16 s).2.pcOverflowed = s.pcOverflowed := rfl
@[simp] theorem pop16_mem : (pop16 s).2.mem = s.mem := rfl
@[simp] theorem pop16_cycleEvents : (pop16 s).2.cycleEvents = s.cycleEvents := rfl

end Pop16Fields

end Sys2Proof.Machine
end

