-- ==== Sys2Proof/Laws/Exec.lean ====
section
/-! SUPPORT. Everything an instruction can do to the machine, in seven shapes, said once for all instructions; and
the three things a step can do. -/

namespace Sys2Proof.Machine

/-- The shapes of an instruction's effect. -/
inductive Effect (s : State) : State → Prop where
  /-- The main register set, or nothing at all. -/
  | main (m : RegSet) : Effect s (s.setMain m)
  /-- Both register sets, SP' apart. -/
  | exchange (m h : RegSet) : h.sp = s.shadow.sp → Effect s ((s.setMain m).setShadow h)
  /-- `pc`, with the main set. -/
  | control (m : RegSet) (pc : Word) : Effect s ((s.setMain m).setPc pc)
  /-- The mode. -/
  | halt : Effect s (s.setMode .halted)
  /-- One byte of memory. -/
  | store (a : Word) (v : Byte) : Effect s (memWrite a v s)
  /-- One word of memory, with the main set. -/
  | storeWord (a v : Word) (m : RegSet) : Effect s ((memWriteWord a v s).setMain m)
  /-- A push, with `pc`. -/
  | push (v pc : Word) : Effect s ((push16 v s).setPc pc)

namespace Effect

variable {s t : State}

theorem fault (h : Effect s t) : t.fault = s.fault := by cases h <;> rfl
theorem pcOverflowed (h : Effect s t) : t.pcOverflowed = s.pcOverflowed := by cases h <;> rfl
theorem cycleEvents (h : Effect s t) : t.cycleEvents = s.cycleEvents := by cases h <;> rfl
theorem shadowSp (h : Effect s t) : t.shadow.sp = s.shadow.sp := by
  cases h with
  | exchange m g e => exact e
  | _ => rfl
theorem memoryWf (h : Effect s t) (w : s.mem.wf = true) : t.mem.wf = true := by
  cases h with
  | store a v => exact memWrite_wf w a v
  | storeWord a v m => exact memWriteWord_wf w a v
  | push v pc => exact push16_wf w v
  | _ => exact w

end Effect

/-! ## The shared operations, one by one -/

section Shapes

variable (s : State)

theorem writePair_effect (p : RegPair) (v : Word) : Effect s (writePair p v s) := by
  cases p <;> exact .main _
theorem noOperation_effect : Effect s (noOperation s) := .main s.main
theorem haltProcessor_effect : Effect s (haltProcessor s) := .halt
theorem jump_effect (nn : Word) : Effect s (jump nn s) := .control s.main nn
theorem jumpIf_effect (cc : Cond) (nn : Word) : Effect s (jumpIf cc nn s) := by
  unfold jumpIf; split
  · exact jump_effect s nn
  · exact noOperation_effect s
theorem callSub_effect (nn : Word) : Effect s (callSub nn s) := .push s.pc nn
theorem callIf_effect (cc : Cond) (nn : Word) : Effect s (callIf cc nn s) := by
  unfold callIf; split
  · exact callSub_effect s nn
  · exact noOperation_effect s
theorem returnFromSub_effect : Effect s (returnFromSub s) := .control { s.main with sp := s.main.sp + 2 } _
theorem returnIf_effect (cc : Cond) : Effect s (returnIf cc s) := by
  unfold returnIf; split
  · exact returnFromSub_effect s
  · exact noOperation_effect s
theorem arithReg_effect (op : ArithOp) (r : Reg) : Effect s (arithReg op r s) := .main _
theorem arithImm_effect (op : ArithOp) (n : Byte) : Effect s (arithImm op n s) := .main _
theorem incRegister_effect (r : Reg) : Effect s (incRegister r s) := .main _
theorem decRegister_effect (r : Reg) : Effect s (decRegister r s) := .main _
theorem operateOnRegisterPair_effect (op : PairOp) (p : RegPair) (w : Word) (fs : List Flag) :
    Effect s (operateOnRegisterPair op p w fs s) := by
  obtain ⟨m, h⟩ := operateOnRegisterPair_eq op p w fs s
  rw [h]; exact .main m
theorem incPair_effect (p : RegPair) : Effect s (incPair p s) := operateOnRegisterPair_effect s _ _ _ _
theorem decPair_effect (p : RegPair) : Effect s (decPair p s) := operateOnRegisterPair_effect s _ _ _ _
theorem addToHL_effect (p : RegPair) : Effect s (addToHL p s) := operateOnRegisterPair_effect s _ _ _ _
theorem logicReg_effect (op : LogicOp) (r : Reg) : Effect s (logicReg op r s) := .main _
theorem logicImm_effect (op : LogicOp) (n : Byte) : Effect s (logicImm op n s) := .main _
theorem rotateALeft_effect : Effect s (rotateALeft s) := .main _
theorem setCarry_effect : Effect s (setCarry s) := .main _
theorem complementCarry_effect : Effect s (complementCarry s) := .main _
theorem complementA_effect : Effect s (complementA s) := .main _
theorem exchangeAF_effect : Effect s (exchangeAF s) := .exchange _ _ rfl
theorem exchangeGeneral_effect : Effect s (exchangeGeneral s) := .exchange _ _ rfl
theorem exchangeDEHL_effect : Effect s (exchangeDEHL s) := .main _
theorem exchangeStackHL_effect : Effect s (exchangeStackHL s) := .storeWord _ _ _
theorem moveReg_effect (dst src : Reg) : Effect s (moveReg dst src s) := .main _
theorem loadAtHL_effect (r : Reg) : Effect s (loadAtHL r s) := .main _
theorem storeAtHL_effect (r : Reg) : Effect s (storeAtHL r s) := .store _ _
theorem loadImm_effect (r : Reg) (n : Byte) : Effect s (loadImm r n s) := .main _
theorem loadAAbs_effect (nn : Word) : Effect s (loadAAbs nn s) := .main _
theorem storeAAbs_effect (nn : Word) : Effect s (storeAAbs nn s) := .store _ _
theorem loadHLAbs_effect (nn : Word) : Effect s (loadHLAbs nn s) := writePair_effect s _ _
theorem storeHLAbs_effect (nn : Word) : Effect s (storeHLAbs nn s) := .storeWord _ _ s.main
theorem storeImmAtHL_effect (n : Byte) : Effect s (storeImmAtHL n s) := .store _ _
theorem pushPair_effect (q : StackPair) : Effect s (pushPair q s) := .push _ s.pc
theorem popPair_effect (q : StackPair) : Effect s (popPair q s) := by cases q <;> exact .main _

end Shapes

/-- Every instruction answers a next state, of one of the shapes. -/
theorem exec_effect (i : Instr) (s : State) : ∃ t, exec i s = .next t ∧ Effect s t := by
  cases i <;> refine ⟨_, rfl, ?_⟩
  all_goals first
    | with_reducible exact moveReg_effect _ _ _
    | with_reducible exact loadAtHL_effect _ _
    | with_reducible exact loadImm_effect _ _ _
    | with_reducible exact arithReg_effect _ _ _
    | with_reducible exact arithImm_effect _ _ _
    | with_reducible exact logicReg_effect _ _ _
    | with_reducible exact logicImm_effect _ _ _
    | with_reducible exact incRegister_effect _ _
    | with_reducible exact decRegister_effect _ _
    | with_reducible exact incPair_effect _ _
    | with_reducible exact decPair_effect _ _
    | with_reducible exact addToHL_effect _ _
    | with_reducible exact jumpIf_effect _ _ _
    | with_reducible exact callIf_effect _ _ _
    | with_reducible exact returnIf_effect _ _
    | with_reducible exact storeAtHL_effect _ _
    | with_reducible exact pushPair_effect _ _
    | with_reducible exact popPair_effect _ _
    | with_reducible exact noOperation_effect _
    | with_reducible exact haltProcessor_effect _
    | with_reducible exact jump_effect _ _
    | with_reducible exact callSub_effect _ _
    | with_reducible exact returnFromSub_effect _
    | with_reducible exact rotateALeft_effect _
    | with_reducible exact setCarry_effect _
    | with_reducible exact complementCarry_effect _
    | with_reducible exact complementA_effect _
    | with_reducible exact exchangeAF_effect _
    | with_reducible exact exchangeGeneral_effect _
    | with_reducible exact exchangeDEHL_effect _
    | with_reducible exact exchangeStackHL_effect _
    | with_reducible exact loadAAbs_effect _ _
    | with_reducible exact storeAAbs_effect _ _
    | with_reducible exact loadHLAbs_effect _ _
    | with_reducible exact storeHLAbs_effect _ _
    | with_reducible exact storeImmAtHL_effect _ _

/-- What a step can do: nothing while Halted, a decode failure, or an instruction and the end of its step. -/
theorem step_cases (s : State) :
    (s.mode = .halted ∧ step s = .next s) ∨
      (∃ pc latch, s.mode = .running ∧ formatOf (memRead s.pc s) = .unimplemented ∧
        step s = .next (raiseDecodeFailure s.pc (memRead s.pc s) ((s.setPc pc).setPcOverflowed latch))) ∨
      ∃ i pc latch u, s.mode = .running ∧ fetchInstr s = .instr i ((s.setPc pc).setPcOverflowed latch) ∧
        exec i ((s.setPc pc).setPcOverflowed latch) = .next u ∧
        Effect ((s.setPc pc).setPcOverflowed latch) u ∧
        step s = .next (endStep i (pathOf i ((s.setPc pc).setPcOverflowed latch)) u) := by
  cases hm : s.mode with
  | halted => exact .inl ⟨rfl, by simp [step, hm]⟩
  | running =>
    rcases fetchInstr_only s with ⟨i, pc, latch, h⟩ | ⟨pc, latch, hu, h⟩
    · obtain ⟨u, hx, he⟩ := exec_effect i ((s.setPc pc).setPcOverflowed latch)
      exact .inr (.inr ⟨i, pc, latch, u, rfl, h, hx, he, by simp only [step, hm, h, hx]⟩)
    · exact .inr (.inl ⟨pc, latch, rfl, hu, by simp only [step, hm, h]⟩)

end Sys2Proof.Machine
end

