-- ==== Sys2Proof/Laws/Host.lean ====
section
/-! SUPPORT. What the host reads after it has written, and when a later fetch reads a byte. -/

namespace Sys2Proof.Machine

@[simp] theorem readBank_onBank_same (bank : Bank) (k : RegSet → RegSet) (s : State) :
    readBank bank (onBank bank k s) = k (readBank bank s) := by
  cases bank <;> rfl

theorem readBank_onBank_other {bank other : Bank} (k : RegSet → RegSet) (s : State) (h : other ≠ bank) :
    readBank other (onBank bank k s) = readBank other s := by
  cases bank <;> cases other <;> first | rfl | exact absurd rfl h

/-- A write to one register set leaves everything else alone. -/
theorem onBank_frame (bank : Bank) (k : RegSet → RegSet) (s : State) : BankFrame bank s (onBank bank k s) where
  other _ h := readBank_onBank_other k s h
  pc := by cases bank <;> rfl
  mode := by cases bank <;> rfl
  memory := by cases bank <;> exact fun _ => rfl
  fault := by cases bank <;> rfl
  latch := by cases bank <;> rfl
  cycleEvents := by cases bank <;> rfl

theorem hostWrite_reg_frame (bank : Bank) (r : Reg) (v : Byte) (s : State) :
    BankFrame bank s (hostWrite (.reg bank r v) s) := onBank_frame bank (fun m => m.set r v) s

theorem hostWrite_f_frame (bank : Bank) (v : Byte) (s : State) : BankFrame bank s (hostWrite (.f bank v) s) :=
  onBank_frame bank (fun m => { m with f := v }) s

theorem hostWrite_flag_frame (bank : Bank) (x : Flag) (v : Bool) (s : State) :
    BankFrame bank s (hostWrite (.flag bank x v) s) :=
  onBank_frame bank (fun m => { m with f := setFlag x v m.f }) s

theorem hostWrite_sp_frame (bank : Bank) (v : Word) (s : State) : BankFrame bank s (hostWrite (.sp bank v) s) :=
  onBank_frame bank (fun m => { m with sp := v }) s

/-- A later fetch reads what memory holds. -/
theorem FetchesAs.of_memRead {a : Word} {v : Byte} {t : State} (h : memRead a t = v) : FetchesAs a v t := by
  intro u hu
  rw [← h, memRead, ← hu]
  rfl

end Sys2Proof.Machine
end

