-- ==== Sys2Proof/Laws/PerInstr.lean ====
section
/-! SUPPORT. The family FormatOfEncoding: the first byte of an instruction's encoding selects the format that
rebuilds the instruction from the bytes after it (30_encoding.md R82, R86). -/

namespace Sys2Proof.Laws.FormatOfEncoding

/-- The encoding is an opcode byte and the operand bytes its format takes, and the format rebuilds the instruction. -/
def Statement (i : Instr) : Prop :=
  (∃ op, encode i = [op] ∧ formatOf op = .f1 i) ∨
    (∃ op n mk, encode i = [op, n] ∧ formatOf op = .f2 mk ∧ mk n = i) ∨
    ∃ op nn mk, encode i = [op, loByte nn, hiByte nn] ∧ formatOf op = .f3 mk ∧ mk nn = i

theorem nop : Statement (.nop) := .inl ⟨_, rfl, rfl⟩
theorem incBC : Statement (.incBC) := .inl ⟨_, rfl, rfl⟩
theorem incB : Statement (.incB) := .inl ⟨_, rfl, rfl⟩
theorem decB : Statement (.decB) := .inl ⟨_, rfl, rfl⟩
theorem ldBImm (n : Byte) : Statement (.ldBImm n) := .inr (.inl ⟨_, _, _, rfl, rfl, rfl⟩)
theorem rlca : Statement (.rlca) := .inl ⟨_, rfl, rfl⟩
theorem exAFAF : Statement (.exAFAF) := .inl ⟨_, rfl, rfl⟩
theorem addHLBC : Statement (.addHLBC) := .inl ⟨_, rfl, rfl⟩
theorem decBC : Statement (.decBC) := .inl ⟨_, rfl, rfl⟩
theorem incC : Statement (.incC) := .inl ⟨_, rfl, rfl⟩
theorem decC : Statement (.decC) := .inl ⟨_, rfl, rfl⟩
theorem ldCImm (n : Byte) : Statement (.ldCImm n) := .inr (.inl ⟨_, _, _, rfl, rfl, rfl⟩)
theorem incDE : Statement (.incDE) := .inl ⟨_, rfl, rfl⟩
theorem incD : Statement (.incD) := .inl ⟨_, rfl, rfl⟩
theorem decD : Statement (.decD) := .inl ⟨_, rfl, rfl⟩
theorem ldDImm (n : Byte) : Statement (.ldDImm n) := .inr (.inl ⟨_, _, _, rfl, rfl, rfl⟩)
theorem addHLDE : Statement (.addHLDE) := .inl ⟨_, rfl, rfl⟩
theorem decDE : Statement (.decDE) := .inl ⟨_, rfl, rfl⟩
theorem incE : Statement (.incE) := .inl ⟨_, rfl, rfl⟩
theorem decE : Statement (.decE) := .inl ⟨_, rfl, rfl⟩
theorem ldEImm (n : Byte) : Statement (.ldEImm n) := .inr (.inl ⟨_, _, _, rfl, rfl, rfl⟩)
theorem ldAbsHL (nn : Word) : Statement (.ldAbsHL nn) := .inr (.inr ⟨_, _, _, rfl, rfl, rfl⟩)
theorem incHL : Statement (.incHL) := .inl ⟨_, rfl, rfl⟩
theorem incH : Statement (.incH) := .inl ⟨_, rfl, rfl⟩
theorem decH : Statement (.decH) := .inl ⟨_, rfl, rfl⟩
theorem ldHImm (n : Byte) : Statement (.ldHImm n) := .inr (.inl ⟨_, _, _, rfl, rfl, rfl⟩)
theorem addHLHL : Statement (.addHLHL) := .inl ⟨_, rfl, rfl⟩
theorem ldHLAbs (nn : Word) : Statement (.ldHLAbs nn) := .inr (.inr ⟨_, _, _, rfl, rfl, rfl⟩)
theorem decHL : Statement (.decHL) := .inl ⟨_, rfl, rfl⟩
theorem incL : Statement (.incL) := .inl ⟨_, rfl, rfl⟩
theorem decL : Statement (.decL) := .inl ⟨_, rfl, rfl⟩
theorem ldLImm (n : Byte) : Statement (.ldLImm n) := .inr (.inl ⟨_, _, _, rfl, rfl, rfl⟩)
theorem cpl : Statement (.cpl) := .inl ⟨_, rfl, rfl⟩
theorem ldAbsA (nn : Word) : Statement (.ldAbsA nn) := .inr (.inr ⟨_, _, _, rfl, rfl, rfl⟩)
theorem incSP : Statement (.incSP) := .inl ⟨_, rfl, rfl⟩
theorem ldAtHLImm (n : Byte) : Statement (.ldAtHLImm n) := .inr (.inl ⟨_, _, _, rfl, rfl, rfl⟩)
theorem scf : Statement (.scf) := .inl ⟨_, rfl, rfl⟩
theorem addHLSP : Statement (.addHLSP) := .inl ⟨_, rfl, rfl⟩
theorem ldAAbs (nn : Word) : Statement (.ldAAbs nn) := .inr (.inr ⟨_, _, _, rfl, rfl, rfl⟩)
theorem decSP : Statement (.decSP) := .inl ⟨_, rfl, rfl⟩
theorem incA : Statement (.incA) := .inl ⟨_, rfl, rfl⟩
theorem decA : Statement (.decA) := .inl ⟨_, rfl, rfl⟩
theorem ldAImm (n : Byte) : Statement (.ldAImm n) := .inr (.inl ⟨_, _, _, rfl, rfl, rfl⟩)
theorem ccf : Statement (.ccf) := .inl ⟨_, rfl, rfl⟩
theorem ldBB : Statement (.ldBB) := .inl ⟨_, rfl, rfl⟩
theorem ldBC : Statement (.ldBC) := .inl ⟨_, rfl, rfl⟩
theorem ldBD : Statement (.ldBD) := .inl ⟨_, rfl, rfl⟩
theorem ldBE : Statement (.ldBE) := .inl ⟨_, rfl, rfl⟩
theorem ldBH : Statement (.ldBH) := .inl ⟨_, rfl, rfl⟩
theorem ldBL : Statement (.ldBL) := .inl ⟨_, rfl, rfl⟩
theorem ldBAtHL : Statement (.ldBAtHL) := .inl ⟨_, rfl, rfl⟩
theorem ldBA : Statement (.ldBA) := .inl ⟨_, rfl, rfl⟩
theorem ldCB : Statement (.ldCB) := .inl ⟨_, rfl, rfl⟩
theorem ldCC : Statement (.ldCC) := .inl ⟨_, rfl, rfl⟩
theorem ldCD : Statement (.ldCD) := .inl ⟨_, rfl, rfl⟩
theorem ldCE : Statement (.ldCE) := .inl ⟨_, rfl, rfl⟩
theorem ldCH : Statement (.ldCH) := .inl ⟨_, rfl, rfl⟩
theorem ldCL : Statement (.ldCL) := .inl ⟨_, rfl, rfl⟩
theorem ldCAtHL : Statement (.ldCAtHL) := .inl ⟨_, rfl, rfl⟩
theorem ldCA : Statement (.ldCA) := .inl ⟨_, rfl, rfl⟩
theorem ldDB : Statement (.ldDB) := .inl ⟨_, rfl, rfl⟩
theorem ldDC : Statement (.ldDC) := .inl ⟨_, rfl, rfl⟩
theorem ldDD : Statement (.ldDD) := .inl ⟨_, rfl, rfl⟩
theorem ldDE : Statement (.ldDE) := .inl ⟨_, rfl, rfl⟩
theorem ldDH : Statement (.ldDH) := .inl ⟨_, rfl, rfl⟩
theorem ldDL : Statement (.ldDL) := .inl ⟨_, rfl, rfl⟩
theorem ldDAtHL : Statement (.ldDAtHL) := .inl ⟨_, rfl, rfl⟩
theorem ldDA : Statement (.ldDA) := .inl ⟨_, rfl, rfl⟩
theorem ldEB : Statement (.ldEB) := .inl ⟨_, rfl, rfl⟩
theorem ldEC : Statement (.ldEC) := .inl ⟨_, rfl, rfl⟩
theorem ldED : Statement (.ldED) := .inl ⟨_, rfl, rfl⟩
theorem ldEE : Statement (.ldEE) := .inl ⟨_, rfl, rfl⟩
theorem ldEH : Statement (.ldEH) := .inl ⟨_, rfl, rfl⟩
theorem ldEL : Statement (.ldEL) := .inl ⟨_, rfl, rfl⟩
theorem ldEAtHL : Statement (.ldEAtHL) := .inl ⟨_, rfl, rfl⟩
theorem ldEA : Statement (.ldEA) := .inl ⟨_, rfl, rfl⟩
theorem ldHB : Statement (.ldHB) := .inl ⟨_, rfl, rfl⟩
theorem ldHC : Statement (.ldHC) := .inl ⟨_, rfl, rfl⟩
theorem ldHD : Statement (.ldHD) := .inl ⟨_, rfl, rfl⟩
theorem ldHE : Statement (.ldHE) := .inl ⟨_, rfl, rfl⟩
theorem ldHH : Statement (.ldHH) := .inl ⟨_, rfl, rfl⟩
theorem ldHL : Statement (.ldHL) := .inl ⟨_, rfl, rfl⟩
theorem ldHAtHL : Statement (.ldHAtHL) := .inl ⟨_, rfl, rfl⟩
theorem ldHA : Statement (.ldHA) := .inl ⟨_, rfl, rfl⟩
theorem ldLB : Statement (.ldLB) := .inl ⟨_, rfl, rfl⟩
theorem ldLC : Statement (.ldLC) := .inl ⟨_, rfl, rfl⟩
theorem ldLD : Statement (.ldLD) := .inl ⟨_, rfl, rfl⟩
theorem ldLE : Statement (.ldLE) := .inl ⟨_, rfl, rfl⟩
theorem ldLH : Statement (.ldLH) := .inl ⟨_, rfl, rfl⟩
theorem ldLL : Statement (.ldLL) := .inl ⟨_, rfl, rfl⟩
theorem ldLAtHL : Statement (.ldLAtHL) := .inl ⟨_, rfl, rfl⟩
theorem ldLA : Statement (.ldLA) := .inl ⟨_, rfl, rfl⟩
theorem ldAtHLB : Statement (.ldAtHLB) := .inl ⟨_, rfl, rfl⟩
theorem ldAtHLC : Statement (.ldAtHLC) := .inl ⟨_, rfl, rfl⟩
theorem ldAtHLD : Statement (.ldAtHLD) := .inl ⟨_, rfl, rfl⟩
theorem ldAtHLE : Statement (.ldAtHLE) := .inl ⟨_, rfl, rfl⟩
theorem ldAtHLH : Statement (.ldAtHLH) := .inl ⟨_, rfl, rfl⟩
theorem ldAtHLL : Statement (.ldAtHLL) := .inl ⟨_, rfl, rfl⟩
theorem halt : Statement (.halt) := .inl ⟨_, rfl, rfl⟩
theorem ldAtHLA : Statement (.ldAtHLA) := .inl ⟨_, rfl, rfl⟩
theorem ldAB : Statement (.ldAB) := .inl ⟨_, rfl, rfl⟩
theorem ldAC : Statement (.ldAC) := .inl ⟨_, rfl, rfl⟩
theorem ldAD : Statement (.ldAD) := .inl ⟨_, rfl, rfl⟩
theorem ldAE : Statement (.ldAE) := .inl ⟨_, rfl, rfl⟩
theorem ldAH : Statement (.ldAH) := .inl ⟨_, rfl, rfl⟩
theorem ldAL : Statement (.ldAL) := .inl ⟨_, rfl, rfl⟩
theorem ldAAtHL : Statement (.ldAAtHL) := .inl ⟨_, rfl, rfl⟩
theorem ldAA : Statement (.ldAA) := .inl ⟨_, rfl, rfl⟩
theorem addAB : Statement (.addAB) := .inl ⟨_, rfl, rfl⟩
theorem addAC : Statement (.addAC) := .inl ⟨_, rfl, rfl⟩
theorem addAD : Statement (.addAD) := .inl ⟨_, rfl, rfl⟩
theorem addAE : Statement (.addAE) := .inl ⟨_, rfl, rfl⟩
theorem addAH : Statement (.addAH) := .inl ⟨_, rfl, rfl⟩
theorem addAL : Statement (.addAL) := .inl ⟨_, rfl, rfl⟩
theorem addAA : Statement (.addAA) := .inl ⟨_, rfl, rfl⟩
theorem adcAB : Statement (.adcAB) := .inl ⟨_, rfl, rfl⟩
theorem adcAC : Statement (.adcAC) := .inl ⟨_, rfl, rfl⟩
theorem adcAD : Statement (.adcAD) := .inl ⟨_, rfl, rfl⟩
theorem adcAE : Statement (.adcAE) := .inl ⟨_, rfl, rfl⟩
theorem adcAH : Statement (.adcAH) := .inl ⟨_, rfl, rfl⟩
theorem adcAL : Statement (.adcAL) := .inl ⟨_, rfl, rfl⟩
theorem adcAA : Statement (.adcAA) := .inl ⟨_, rfl, rfl⟩
theorem subB : Statement (.subB) := .inl ⟨_, rfl, rfl⟩
theorem subC : Statement (.subC) := .inl ⟨_, rfl, rfl⟩
theorem subD : Statement (.subD) := .inl ⟨_, rfl, rfl⟩
theorem subE : Statement (.subE) := .inl ⟨_, rfl, rfl⟩
theorem subH : Statement (.subH) := .inl ⟨_, rfl, rfl⟩
theorem subL : Statement (.subL) := .inl ⟨_, rfl, rfl⟩
theorem subA : Statement (.subA) := .inl ⟨_, rfl, rfl⟩
theorem sbcAB : Statement (.sbcAB) := .inl ⟨_, rfl, rfl⟩
theorem sbcAC : Statement (.sbcAC) := .inl ⟨_, rfl, rfl⟩
theorem sbcAD : Statement (.sbcAD) := .inl ⟨_, rfl, rfl⟩
theorem sbcAE : Statement (.sbcAE) := .inl ⟨_, rfl, rfl⟩
theorem sbcAH : Statement (.sbcAH) := .inl ⟨_, rfl, rfl⟩
theorem sbcAL : Statement (.sbcAL) := .inl ⟨_, rfl, rfl⟩
theorem sbcAA : Statement (.sbcAA) := .inl ⟨_, rfl, rfl⟩
theorem andB : Statement (.andB) := .inl ⟨_, rfl, rfl⟩
theorem andC : Statement (.andC) := .inl ⟨_, rfl, rfl⟩
theorem andD : Statement (.andD) := .inl ⟨_, rfl, rfl⟩
theorem andE : Statement (.andE) := .inl ⟨_, rfl, rfl⟩
theorem andH : Statement (.andH) := .inl ⟨_, rfl, rfl⟩
theorem andL : Statement (.andL) := .inl ⟨_, rfl, rfl⟩
theorem andA : Statement (.andA) := .inl ⟨_, rfl, rfl⟩
theorem xorB : Statement (.xorB) := .inl ⟨_, rfl, rfl⟩
theorem xorC : Statement (.xorC) := .inl ⟨_, rfl, rfl⟩
theorem xorD : Statement (.xorD) := .inl ⟨_, rfl, rfl⟩
theorem xorE : Statement (.xorE) := .inl ⟨_, rfl, rfl⟩
theorem xorH : Statement (.xorH) := .inl ⟨_, rfl, rfl⟩
theorem xorL : Statement (.xorL) := .inl ⟨_, rfl, rfl⟩
theorem xorA : Statement (.xorA) := .inl ⟨_, rfl, rfl⟩
theorem orB : Statement (.orB) := .inl ⟨_, rfl, rfl⟩
theorem orC : Statement (.orC) := .inl ⟨_, rfl, rfl⟩
theorem orD : Statement (.orD) := .inl ⟨_, rfl, rfl⟩
theorem orE : Statement (.orE) := .inl ⟨_, rfl, rfl⟩
theorem orH : Statement (.orH) := .inl ⟨_, rfl, rfl⟩
theorem orL : Statement (.orL) := .inl ⟨_, rfl, rfl⟩
theorem orA : Statement (.orA) := .inl ⟨_, rfl, rfl⟩
theorem retNZ : Statement (.retNZ) := .inl ⟨_, rfl, rfl⟩
theorem popBC : Statement (.popBC) := .inl ⟨_, rfl, rfl⟩
theorem jpNZ (nn : Word) : Statement (.jpNZ nn) := .inr (.inr ⟨_, _, _, rfl, rfl, rfl⟩)
theorem jp (nn : Word) : Statement (.jp nn) := .inr (.inr ⟨_, _, _, rfl, rfl, rfl⟩)
theorem callNZ (nn : Word) : Statement (.callNZ nn) := .inr (.inr ⟨_, _, _, rfl, rfl, rfl⟩)
theorem pushBC : Statement (.pushBC) := .inl ⟨_, rfl, rfl⟩
theorem addAImm (n : Byte) : Statement (.addAImm n) := .inr (.inl ⟨_, _, _, rfl, rfl, rfl⟩)
theorem retZ : Statement (.retZ) := .inl ⟨_, rfl, rfl⟩
theorem ret : Statement (.ret) := .inl ⟨_, rfl, rfl⟩
theorem jpZ (nn : Word) : Statement (.jpZ nn) := .inr (.inr ⟨_, _, _, rfl, rfl, rfl⟩)
theorem callZ (nn : Word) : Statement (.callZ nn) := .inr (.inr ⟨_, _, _, rfl, rfl, rfl⟩)
theorem call (nn : Word) : Statement (.call nn) := .inr (.inr ⟨_, _, _, rfl, rfl, rfl⟩)
theorem adcAImm (n : Byte) : Statement (.adcAImm n) := .inr (.inl ⟨_, _, _, rfl, rfl, rfl⟩)
theorem retNC : Statement (.retNC) := .inl ⟨_, rfl, rfl⟩
theorem popDE : Statement (.popDE) := .inl ⟨_, rfl, rfl⟩
theorem jpNC (nn : Word) : Statement (.jpNC nn) := .inr (.inr ⟨_, _, _, rfl, rfl, rfl⟩)
theorem callNC (nn : Word) : Statement (.callNC nn) := .inr (.inr ⟨_, _, _, rfl, rfl, rfl⟩)
theorem pushDE : Statement (.pushDE) := .inl ⟨_, rfl, rfl⟩
theorem subImm (n : Byte) : Statement (.subImm n) := .inr (.inl ⟨_, _, _, rfl, rfl, rfl⟩)
theorem retC : Statement (.retC) := .inl ⟨_, rfl, rfl⟩
theorem exx : Statement (.exx) := .inl ⟨_, rfl, rfl⟩
theorem jpC (nn : Word) : Statement (.jpC nn) := .inr (.inr ⟨_, _, _, rfl, rfl, rfl⟩)
theorem callC (nn : Word) : Statement (.callC nn) := .inr (.inr ⟨_, _, _, rfl, rfl, rfl⟩)
theorem sbcAImm (n : Byte) : Statement (.sbcAImm n) := .inr (.inl ⟨_, _, _, rfl, rfl, rfl⟩)
theorem retPO : Statement (.retPO) := .inl ⟨_, rfl, rfl⟩
theorem popHL : Statement (.popHL) := .inl ⟨_, rfl, rfl⟩
theorem jpPO (nn : Word) : Statement (.jpPO nn) := .inr (.inr ⟨_, _, _, rfl, rfl, rfl⟩)
theorem exSPHL : Statement (.exSPHL) := .inl ⟨_, rfl, rfl⟩
theorem callPO (nn : Word) : Statement (.callPO nn) := .inr (.inr ⟨_, _, _, rfl, rfl, rfl⟩)
theorem pushHL : Statement (.pushHL) := .inl ⟨_, rfl, rfl⟩
theorem andImm (n : Byte) : Statement (.andImm n) := .inr (.inl ⟨_, _, _, rfl, rfl, rfl⟩)
theorem retPE : Statement (.retPE) := .inl ⟨_, rfl, rfl⟩
theorem jpPE (nn : Word) : Statement (.jpPE nn) := .inr (.inr ⟨_, _, _, rfl, rfl, rfl⟩)
theorem exDEHL : Statement (.exDEHL) := .inl ⟨_, rfl, rfl⟩
theorem callPE (nn : Word) : Statement (.callPE nn) := .inr (.inr ⟨_, _, _, rfl, rfl, rfl⟩)
theorem xorImm (n : Byte) : Statement (.xorImm n) := .inr (.inl ⟨_, _, _, rfl, rfl, rfl⟩)
theorem retP : Statement (.retP) := .inl ⟨_, rfl, rfl⟩
theorem popAF : Statement (.popAF) := .inl ⟨_, rfl, rfl⟩
theorem jpP (nn : Word) : Statement (.jpP nn) := .inr (.inr ⟨_, _, _, rfl, rfl, rfl⟩)
theorem callP (nn : Word) : Statement (.callP nn) := .inr (.inr ⟨_, _, _, rfl, rfl, rfl⟩)
theorem pushAF : Statement (.pushAF) := .inl ⟨_, rfl, rfl⟩
theorem orImm (n : Byte) : Statement (.orImm n) := .inr (.inl ⟨_, _, _, rfl, rfl, rfl⟩)
theorem retM : Statement (.retM) := .inl ⟨_, rfl, rfl⟩
theorem jpM (nn : Word) : Statement (.jpM nn) := .inr (.inr ⟨_, _, _, rfl, rfl, rfl⟩)
theorem callM (nn : Word) : Statement (.callM nn) := .inr (.inr ⟨_, _, _, rfl, rfl, rfl⟩)

end Sys2Proof.Laws.FormatOfEncoding
end

