-- ==== Sys2Proof/Tests/Slice0.lean ====
section
/-! SUPPORT. Tests. Expected values come from the spec: the opcode map of 30_encoding.md R86 for the decode tests,
the vectors of 95_test_vectors.md (named V-…) for the steps; and one witness for each statement with hypotheses. -/

namespace Sys2Proof.Tests

open Sys2Proof Sys2Proof.Machine

/-! ## Well-formedness: R120 -/

/-- The last byte of memory may be the last byte of a program. -/
theorem test_image_fits : Image.fits { address := 0xFFFE, program := [0x76, 0x76] } = true := by decide

/-- An ill-formed image: it would end past the address space. -/
theorem test_image_refused : Image.fits { address := 0xFFFF, program := [0x00, 0x76] } = false := by decide

/-- A refused image writes nothing. -/
theorem test_load_refused :
    loadAt { address := 0xFFFF, program := [0x00, 0x76] } State.reset = (false, State.reset) := by decide

/-! ## Decoding: each word written out from the opcode map -/

/-- Every pair of bytes and instruction decodes as it says, with no byte left. -/
def decodesAll (rows : List (List Byte × Instr)) : Bool :=
  rows.all fun row =>
    match decode row.1 with
    | .ok (i, rest) => i == row.2 && rest.isEmpty
    | .error _ => false

theorem test_decode_control :
    decodesAll [
    ([0b00000000], .nop), ([0b01110110], .halt), ([0b11000000], .retNZ), ([0b11000010, 0x34, 0x12], .jpNZ 0x1234),
    ([0b11000011, 0x34, 0x12], .jp 0x1234), ([0b11000100, 0x34, 0x12], .callNZ 0x1234), ([0b11001000], .retZ),
    ([0b11001001], .ret), ([0b11001010, 0x34, 0x12], .jpZ 0x1234), ([0b11001100, 0x34, 0x12], .callZ 0x1234),
    ([0b11001101, 0x34, 0x12], .call 0x1234), ([0b11010000], .retNC), ([0b11010010, 0x34, 0x12], .jpNC 0x1234),
    ([0b11010100, 0x34, 0x12], .callNC 0x1234), ([0b11011000], .retC), ([0b11011010, 0x34, 0x12], .jpC 0x1234),
    ([0b11011100, 0x34, 0x12], .callC 0x1234), ([0b11100000], .retPO), ([0b11100010, 0x34, 0x12], .jpPO 0x1234),
    ([0b11100100, 0x34, 0x12], .callPO 0x1234), ([0b11101000], .retPE), ([0b11101010, 0x34, 0x12], .jpPE 0x1234),
    ([0b11101100, 0x34, 0x12], .callPE 0x1234), ([0b11110000], .retP), ([0b11110010, 0x34, 0x12], .jpP 0x1234),
    ([0b11110100, 0x34, 0x12], .callP 0x1234), ([0b11111000], .retM), ([0b11111010, 0x34, 0x12], .jpM 0x1234),
    ([0b11111100, 0x34, 0x12], .callM 0x1234)] = true := by
  decide

theorem test_decode_arith16 :
    decodesAll [
    ([0b00000011], .incBC), ([0b00001001], .addHLBC), ([0b00001011], .decBC), ([0b00010011], .incDE),
    ([0b00011001], .addHLDE), ([0b00011011], .decDE), ([0b00100011], .incHL), ([0b00101001], .addHLHL),
    ([0b00101011], .decHL), ([0b00110011], .incSP), ([0b00111001], .addHLSP), ([0b00111011], .decSP)] = true := by
  decide

theorem test_decode_arith8_1 :
    decodesAll [
    ([0b00000100], .incB), ([0b00000101], .decB), ([0b00001100], .incC), ([0b00001101], .decC),
    ([0b00010100], .incD), ([0b00010101], .decD), ([0b00011100], .incE), ([0b00011101], .decE),
    ([0b00100100], .incH), ([0b00100101], .decH), ([0b00101100], .incL), ([0b00101101], .decL),
    ([0b00111100], .incA), ([0b00111101], .decA), ([0b10000000], .addAB), ([0b10000001], .addAC),
    ([0b10000010], .addAD), ([0b10000011], .addAE), ([0b10000100], .addAH), ([0b10000101], .addAL),
    ([0b10000111], .addAA), ([0b10001000], .adcAB), ([0b10001001], .adcAC), ([0b10001010], .adcAD),
    ([0b10001011], .adcAE), ([0b10001100], .adcAH), ([0b10001101], .adcAL), ([0b10001111], .adcAA),
    ([0b10010000], .subB), ([0b10010001], .subC), ([0b10010010], .subD), ([0b10010011], .subE)] = true := by
  decide

theorem test_decode_arith8_2 :
    decodesAll [
    ([0b10010100], .subH), ([0b10010101], .subL), ([0b10010111], .subA), ([0b10011000], .sbcAB),
    ([0b10011001], .sbcAC), ([0b10011010], .sbcAD), ([0b10011011], .sbcAE), ([0b10011100], .sbcAH),
    ([0b10011101], .sbcAL), ([0b10011111], .sbcAA), ([0b11000110, 0x5A], .addAImm 0x5A),
    ([0b11001110, 0x5A], .adcAImm 0x5A), ([0b11010110, 0x5A], .subImm 0x5A),
    ([0b11011110, 0x5A], .sbcAImm 0x5A)] = true := by
  decide

theorem test_decode_memory_1 :
    decodesAll [
    ([0b00000110, 0x5A], .ldBImm 0x5A), ([0b00001110, 0x5A], .ldCImm 0x5A), ([0b00010110, 0x5A], .ldDImm 0x5A),
    ([0b00011110, 0x5A], .ldEImm 0x5A), ([0b00100010, 0x34, 0x12], .ldAbsHL 0x1234),
    ([0b00100110, 0x5A], .ldHImm 0x5A), ([0b00101010, 0x34, 0x12], .ldHLAbs 0x1234),
    ([0b00101110, 0x5A], .ldLImm 0x5A), ([0b00110010, 0x34, 0x12], .ldAbsA 0x1234),
    ([0b00110110, 0x5A], .ldAtHLImm 0x5A), ([0b00111010, 0x34, 0x12], .ldAAbs 0x1234),
    ([0b00111110, 0x5A], .ldAImm 0x5A), ([0b01000000], .ldBB), ([0b01000001], .ldBC), ([0b01000010], .ldBD),
    ([0b01000011], .ldBE), ([0b01000100], .ldBH), ([0b01000101], .ldBL), ([0b01000110], .ldBAtHL),
    ([0b01000111], .ldBA), ([0b01001000], .ldCB), ([0b01001001], .ldCC), ([0b01001010], .ldCD),
    ([0b01001011], .ldCE), ([0b01001100], .ldCH), ([0b01001101], .ldCL), ([0b01001110], .ldCAtHL),
    ([0b01001111], .ldCA), ([0b01010000], .ldDB), ([0b01010001], .ldDC), ([0b01010010], .ldDD),
    ([0b01010011], .ldDE)] = true := by
  decide

theorem test_decode_memory_2 :
    decodesAll [
    ([0b01010100], .ldDH), ([0b01010101], .ldDL), ([0b01010110], .ldDAtHL), ([0b01010111], .ldDA),
    ([0b01011000], .ldEB), ([0b01011001], .ldEC), ([0b01011010], .ldED), ([0b01011011], .ldEE),
    ([0b01011100], .ldEH), ([0b01011101], .ldEL), ([0b01011110], .ldEAtHL), ([0b01011111], .ldEA),
    ([0b01100000], .ldHB), ([0b01100001], .ldHC), ([0b01100010], .ldHD), ([0b01100011], .ldHE),
    ([0b01100100], .ldHH), ([0b01100101], .ldHL), ([0b01100110], .ldHAtHL), ([0b01100111], .ldHA),
    ([0b01101000], .ldLB), ([0b01101001], .ldLC), ([0b01101010], .ldLD), ([0b01101011], .ldLE),
    ([0b01101100], .ldLH), ([0b01101101], .ldLL), ([0b01101110], .ldLAtHL), ([0b01101111], .ldLA),
    ([0b01110000], .ldAtHLB), ([0b01110001], .ldAtHLC), ([0b01110010], .ldAtHLD), ([0b01110011], .ldAtHLE)] = true := by
  decide

theorem test_decode_memory_3 :
    decodesAll [
    ([0b01110100], .ldAtHLH), ([0b01110101], .ldAtHLL), ([0b01110111], .ldAtHLA), ([0b01111000], .ldAB),
    ([0b01111001], .ldAC), ([0b01111010], .ldAD), ([0b01111011], .ldAE), ([0b01111100], .ldAH),
    ([0b01111101], .ldAL), ([0b01111110], .ldAAtHL), ([0b01111111], .ldAA)] = true := by
  decide

theorem test_decode_bitwise :
    decodesAll [
    ([0b00000111], .rlca), ([0b00101111], .cpl), ([0b00110111], .scf), ([0b00111111], .ccf), ([0b10100000], .andB),
    ([0b10100001], .andC), ([0b10100010], .andD), ([0b10100011], .andE), ([0b10100100], .andH),
    ([0b10100101], .andL), ([0b10100111], .andA), ([0b10101000], .xorB), ([0b10101001], .xorC),
    ([0b10101010], .xorD), ([0b10101011], .xorE), ([0b10101100], .xorH), ([0b10101101], .xorL),
    ([0b10101111], .xorA), ([0b10110000], .orB), ([0b10110001], .orC), ([0b10110010], .orD), ([0b10110011], .orE),
    ([0b10110100], .orH), ([0b10110101], .orL), ([0b10110111], .orA), ([0b11100110, 0x5A], .andImm 0x5A),
    ([0b11101110, 0x5A], .xorImm 0x5A), ([0b11110110, 0x5A], .orImm 0x5A)] = true := by
  decide

theorem test_decode_exchange :
    decodesAll [
    ([0b00001000], .exAFAF), ([0b11011001], .exx), ([0b11100011], .exSPHL), ([0b11101011], .exDEHL)] = true := by
  decide

theorem test_decode_stack :
    decodesAll [
    ([0b11000001], .popBC), ([0b11000101], .pushBC), ([0b11010001], .popDE), ([0b11010101], .pushDE),
    ([0b11100001], .popHL), ([0b11100101], .pushHL), ([0b11110001], .popAF), ([0b11110101], .pushAF)] = true := by
  decide

/-- A byte outside the map is rejected by name, with the bytes after it unread. -/
theorem test_decode_unimplemented :
    (match decode [0xED, 0x44] with | .error (.unimplemented op) => op == 0xED | _ => false) = true := by decide

/-- An instruction whose operand bytes are missing is rejected. -/
theorem test_decode_truncated : (match decode [0xC3, 0x34] with | .error _ => true | .ok _ => false) = true := by
  decide

/-- Bit 0 of the table's word is bit 0 of the first byte. -/
theorem test_decodeTableWord : decodeTableWord 24 0x1234C3 = some (.jp 0x1234) := by decide

/-- A row whose operand has no bits in the table reads it as zero. -/
theorem test_decodeTableWord_short : decodeTableWord 8 0x3E = some (.ldAImm 0) := by decide

/-! ## Steps -/

/-- A Running machine with a program at `pc`, other bytes of memory, and its two register sets. -/
def machine (pc : Word) (program : List Byte) (bytes : List (Word × Byte)) (main shadow : RegSet) : State :=
  { State.reset with
    main := main, shadow := shadow, pc := pc, mode := .running
    mem :=
      bytes.foldl (fun m cell => m.write cell.1.toNat cell.2)
        (program.foldl (fun (m : Memory × Word) b => (m.1.write m.2.toNat b, m.2 + 1)) ([], pc)).1 }

/-- What a function reads from the state one step later. -/
def after {α : Type} (s : State) (f : State → α) : Option α :=
  match step s with
  | .next t => some (f t)
  | .fault _ => none
  | .refused _ => none

/-- The word placed for the host's first step runs. -/
theorem test_withFetchWord : after (State.reset.withFetchWord 16 0x5A3E) (fun t => t.main.a) = some 0x5A := by decide

/-- Power-on leaves the processor Halted, so a step does nothing (R116, R370). -/
theorem test_reset_step : step State.reset = .next State.reset := rfl

/-- JP NZ,0x1234: V-CTL-1. -/
theorem test_V_CTL_1 :
    after (machine 0x0100 [0xC2, 0x34, 0x12] []
      { RegSet.zero with f := 0x00 }
      RegSet.zero)
      (fun t => (t.pc, t.main.f))
      = some (0x1234, 0x00) := by decide

/-- JP NZ,0x1234: V-CTL-2. -/
theorem test_V_CTL_2 :
    after (machine 0x0100 [0xC2, 0x34, 0x12] []
      { RegSet.zero with f := 0x40 }
      RegSet.zero)
      (fun t => (t.pc, t.main.f))
      = some (0x0103, 0x40) := by decide

/-- JP Z,0x1234: V-CTL-3. -/
theorem test_V_CTL_3 :
    after (machine 0x0100 [0xCA, 0x34, 0x12] []
      { RegSet.zero with f := 0x40 }
      RegSet.zero)
      (fun t => (t.pc, t.main.f))
      = some (0x1234, 0x40) := by decide

/-- JP NC,0x1234: V-CTL-5. -/
theorem test_V_CTL_5 :
    after (machine 0x0100 [0xD2, 0x34, 0x12] []
      { RegSet.zero with f := 0x00 }
      RegSet.zero)
      (fun t => (t.pc, t.main.f))
      = some (0x1234, 0x00) := by decide

/-- JP C,0x1234: V-CTL-7. -/
theorem test_V_CTL_7 :
    after (machine 0x0100 [0xDA, 0x34, 0x12] []
      { RegSet.zero with f := 0x01 }
      RegSet.zero)
      (fun t => (t.pc, t.main.f))
      = some (0x1234, 0x01) := by decide

/-- JP PO,0x1234: V-CTL-9. -/
theorem test_V_CTL_9 :
    after (machine 0x0100 [0xE2, 0x34, 0x12] []
      { RegSet.zero with f := 0x00 }
      RegSet.zero)
      (fun t => (t.pc, t.main.f))
      = some (0x1234, 0x00) := by decide

/-- JP PE,0x1234: V-CTL-11. -/
theorem test_V_CTL_11 :
    after (machine 0x0100 [0xEA, 0x34, 0x12] []
      { RegSet.zero with f := 0x04 }
      RegSet.zero)
      (fun t => (t.pc, t.main.f))
      = some (0x1234, 0x04) := by decide

/-- JP P,0x1234: V-CTL-13. -/
theorem test_V_CTL_13 :
    after (machine 0x0100 [0xF2, 0x34, 0x12] []
      { RegSet.zero with f := 0x00 }
      RegSet.zero)
      (fun t => (t.pc, t.main.f))
      = some (0x1234, 0x00) := by decide

/-- JP M,0x1234: V-CTL-15. -/
theorem test_V_CTL_15 :
    after (machine 0x0100 [0xFA, 0x34, 0x12] []
      { RegSet.zero with f := 0x80 }
      RegSet.zero)
      (fun t => (t.pc, t.main.f))
      = some (0x1234, 0x80) := by decide

/-- CALL NZ,0x2000: V-CTL-17. -/
theorem test_V_CTL_17 :
    after (machine 0x0100 [0xC4, 0x00, 0x20] []
      { RegSet.zero with f := 0x00, sp := 0x8000 }
      RegSet.zero)
      (fun t => (t.main.sp, t.pc, t.main.f, memRead 0x7FFE t, memRead 0x7FFF t))
      = some (0x7FFE, 0x2000, 0x00, 0x03, 0x01) := by decide

/-- CALL NZ,0x2000: V-CTL-18. -/
theorem test_V_CTL_18 :
    after (machine 0x0100 [0xC4, 0x00, 0x20] []
      { RegSet.zero with f := 0x40, sp := 0x8000 }
      RegSet.zero)
      (fun t => (t.pc, t.main.f))
      = some (0x0103, 0x40) := by decide

/-- RET Z: V-CTL-23. -/
theorem test_V_CTL_23 :
    after (machine 0x0100 [0xC8] [(0x7FFE, 0x03), (0x7FFF, 0x01)]
      { RegSet.zero with f := 0x40, sp := 0x7FFE }
      RegSet.zero)
      (fun t => (t.main.sp, t.pc, t.main.f))
      = some (0x8000, 0x0103, 0x40) := by decide

/-- RET Z: V-CTL-24. -/
theorem test_V_CTL_24 :
    after (machine 0x0100 [0xC8] [(0x7FFE, 0x03), (0x7FFF, 0x01)]
      { RegSet.zero with f := 0x00, sp := 0x7FFE }
      RegSet.zero)
      (fun t => (t.pc, t.main.f))
      = some (0x0101, 0x00) := by decide

/-- HALT: V-CTL-30. -/
theorem test_V_CTL_30 :
    after (machine 0x0100 [0x76] []
      RegSet.zero
      RegSet.zero)
      (fun t => (t.pc, t.main.f, t.mode))
      = some (0x0101, 0x00, .halted) := by decide

/-- CALL 0x2000: V-CTL-32. -/
theorem test_V_CTL_32 :
    after (machine 0x0100 [0xCD, 0x00, 0x20] []
      { RegSet.zero with sp := 0x0000 }
      RegSet.zero)
      (fun t => (t.main.sp, t.pc, t.main.f, memRead 0xFFFE t, memRead 0xFFFF t))
      = some (0xFFFE, 0x2000, 0x00, 0x03, 0x01) := by decide

/-- CALL 0x2000: V-CTL-33. -/
theorem test_V_CTL_33 :
    after (machine 0x0100 [0xCD, 0x00, 0x20] []
      { RegSet.zero with sp := 0x0001 }
      RegSet.zero)
      (fun t => (t.main.sp, t.pc, t.main.f, memRead 0x0000 t, memRead 0xFFFF t))
      = some (0xFFFF, 0x2000, 0x00, 0x01, 0x03) := by decide

/-- RET: V-CTL-34. -/
theorem test_V_CTL_34 :
    after (machine 0x0100 [0xC9] [(0xFFFF, 0x34), (0x0000, 0x12)]
      { RegSet.zero with sp := 0xFFFF }
      RegSet.zero)
      (fun t => (t.main.sp, t.pc, t.main.f))
      = some (0x0001, 0x1234, 0x00) := by decide

/-- CALL 0x2000: V-CTLTOP-3. -/
theorem test_V_CTLTOP_3 :
    after (machine 0xFFFF [0xCD, 0x00, 0x20] []
      { RegSet.zero with sp := 0x8000 }
      RegSet.zero)
      (fun t => (t.main.sp, t.pc, t.main.f, memRead 0x7FFE t, t.mode))
      = some (0x7FFE, 0x2000, 0x00, 0x02, .halted) := by decide

/-- JP Z,0x1234: V-CTLTOP-4. -/
theorem test_V_CTLTOP_4 :
    after (machine 0xFFFF [0xCA, 0x34, 0x12] []
      { RegSet.zero with f := 0x00 }
      RegSet.zero)
      (fun t => (t.pc, t.main.f, t.mode))
      = some (0x0002, 0x00, .halted) := by decide

/-- ADD A,B: V-A8-1. -/
theorem test_V_A8_1 :
    after (machine 0x0100 [0x80] []
      { RegSet.zero with a := 0x7F, b := 0x01 }
      RegSet.zero)
      (fun t => (t.main.a, t.pc, t.main.f))
      = some (0x80, 0x0101, 0x94) := by decide

/-- ADD A,B: V-A8-3. -/
theorem test_V_A8_3 :
    after (machine 0x0100 [0x80] []
      { RegSet.zero with a := 0x80, b := 0x80 }
      RegSet.zero)
      (fun t => (t.main.a, t.pc, t.main.f))
      = some (0x00, 0x0101, 0x45) := by decide

/-- ADC A,B: V-A8-8. -/
theorem test_V_A8_8 :
    after (machine 0x0100 [0x88] []
      { RegSet.zero with a := 0x10, b := 0x0F, f := 0x01 }
      RegSet.zero)
      (fun t => (t.main.a, t.pc, t.main.f))
      = some (0x20, 0x0101, 0x00) := by decide

/-- ADC A,B: V-A8-9. -/
theorem test_V_A8_9 :
    after (machine 0x0100 [0x88] []
      { RegSet.zero with a := 0x01, b := 0xFF, f := 0x01 }
      RegSet.zero)
      (fun t => (t.pc, t.main.f))
      = some (0x0101, 0x00) := by decide

/-- ADC A,0x7F: V-A8-13. -/
theorem test_V_A8_13 :
    after (machine 0x0100 [0xCE, 0x7F] []
      { RegSet.zero with a := 0x00, f := 0x01 }
      RegSet.zero)
      (fun t => (t.main.a, t.pc, t.main.f))
      = some (0x80, 0x0102, 0x80) := by decide

/-- SUB B: V-A8-15. -/
theorem test_V_A8_15 :
    after (machine 0x0100 [0x90] []
      { RegSet.zero with a := 0x03, b := 0x05 }
      RegSet.zero)
      (fun t => (t.main.a, t.pc, t.main.f))
      = some (0xFE, 0x0101, 0x82) := by decide

/-- SUB B: V-A8-20. -/
theorem test_V_A8_20 :
    after (machine 0x0100 [0x90] []
      { RegSet.zero with a := 0x80, b := 0x80 }
      RegSet.zero)
      (fun t => (t.main.a, t.pc, t.main.f))
      = some (0x00, 0x0101, 0x47) := by decide

/-- SUB 0x05: V-A8-22. -/
theorem test_V_A8_22 :
    after (machine 0x0100 [0xD6, 0x05] []
      { RegSet.zero with a := 0x03 }
      RegSet.zero)
      (fun t => (t.main.a, t.pc, t.main.f))
      = some (0xFE, 0x0102, 0x82) := by decide

/-- SBC A,B: V-A8-23. -/
theorem test_V_A8_23 :
    after (machine 0x0100 [0x98] []
      { RegSet.zero with a := 0x05, b := 0x03, f := 0x01 }
      RegSet.zero)
      (fun t => (t.main.a, t.pc, t.main.f))
      = some (0x01, 0x0101, 0x13) := by decide

/-- SBC A,B: V-A8-24. -/
theorem test_V_A8_24 :
    after (machine 0x0100 [0x98] []
      { RegSet.zero with a := 0x05, b := 0xFF, f := 0x01 }
      RegSet.zero)
      (fun t => (t.pc, t.main.f))
      = some (0x0101, 0x02) := by decide

/-- SBC A,0x00: V-A8-26. -/
theorem test_V_A8_26 :
    after (machine 0x0100 [0xDE, 0x00] []
      { RegSet.zero with a := 0x00, f := 0x01 }
      RegSet.zero)
      (fun t => (t.main.a, t.pc, t.main.f))
      = some (0xFF, 0x0102, 0x82) := by decide

/-- INC B: V-A8-27. -/
theorem test_V_A8_27 :
    after (machine 0x0100 [0x04] []
      { RegSet.zero with b := 0x7F, f := 0x01 }
      RegSet.zero)
      (fun t => (t.main.b, t.pc, t.main.f))
      = some (0x80, 0x0101, 0x95) := by decide

/-- INC A: V-A8-29. -/
theorem test_V_A8_29 :
    after (machine 0x0100 [0x3C] []
      { RegSet.zero with a := 0xFF, f := 0x03 }
      RegSet.zero)
      (fun t => (t.main.a, t.pc, t.main.f))
      = some (0x00, 0x0101, 0x51) := by decide

/-- DEC B: V-A8-30. -/
theorem test_V_A8_30 :
    after (machine 0x0100 [0x05] []
      { RegSet.zero with b := 0x01 }
      RegSet.zero)
      (fun t => (t.main.b, t.pc, t.main.f))
      = some (0x00, 0x0101, 0x52) := by decide

/-- DEC B: V-A8-31. -/
theorem test_V_A8_31 :
    after (machine 0x0100 [0x05] []
      { RegSet.zero with b := 0x00, f := 0x01 }
      RegSet.zero)
      (fun t => (t.main.b, t.pc, t.main.f))
      = some (0xFF, 0x0101, 0x83) := by decide

/-- DEC C: V-A8-32. -/
theorem test_V_A8_32 :
    after (machine 0x0100 [0x0D] []
      { RegSet.zero with c := 0x80 }
      RegSet.zero)
      (fun t => (t.main.c, t.pc, t.main.f))
      = some (0x7F, 0x0101, 0x06) := by decide

/-- INC BC: V-A16-1. -/
theorem test_V_A16_1 :
    after (machine 0x0100 [0x03] []
      { RegSet.zero with b := 0x12, c := 0xFF }
      RegSet.zero)
      (fun t => (t.main.b, t.main.c, t.pc, t.main.f))
      = some (0x13, 0x00, 0x0101, 0x00) := by decide

/-- INC HL: V-A16-2. -/
theorem test_V_A16_2 :
    after (machine 0x0100 [0x23] []
      { RegSet.zero with h := 0xFF, l := 0xFF, f := 0x41 }
      RegSet.zero)
      (fun t => (t.main.h, t.main.l, t.pc, t.main.f))
      = some (0x00, 0x00, 0x0101, 0x41) := by decide

/-- DEC DE: V-A16-3. -/
theorem test_V_A16_3 :
    after (machine 0x0100 [0x1B] []
      { RegSet.zero with d := 0x00, e := 0x00 }
      RegSet.zero)
      (fun t => (t.main.d, t.main.e, t.pc, t.main.f))
      = some (0xFF, 0xFF, 0x0101, 0x00) := by decide

/-- DEC SP: V-A16-4. -/
theorem test_V_A16_4 :
    after (machine 0x0100 [0x3B] []
      { RegSet.zero with sp := 0x0000 }
      RegSet.zero)
      (fun t => (t.main.sp, t.pc, t.main.f))
      = some (0xFFFF, 0x0101, 0x00) := by decide

/-- ADD HL,DE: V-A16-6. -/
theorem test_V_A16_6 :
    after (machine 0x0100 [0x19] []
      { RegSet.zero with h := 0x00, l := 0xFF, d := 0x00, e := 0x01 }
      RegSet.zero)
      (fun t => (t.main.h, t.main.l, t.pc, t.main.f))
      = some (0x01, 0x00, 0x0101, 0x10) := by decide

/-- ADD HL,BC: V-A16-7. -/
theorem test_V_A16_7 :
    after (machine 0x0100 [0x09] []
      { RegSet.zero with h := 0x0F, l := 0xFF, b := 0x00, c := 0x01 }
      RegSet.zero)
      (fun t => (t.main.h, t.main.l, t.pc, t.main.f))
      = some (0x10, 0x00, 0x0101, 0x10) := by decide

/-- ADD HL,SP: V-A16-8. -/
theorem test_V_A16_8 :
    after (machine 0x0100 [0x39] []
      { RegSet.zero with h := 0xFF, l := 0xFF, sp := 0x0001, f := 0xC6 }
      RegSet.zero)
      (fun t => (t.main.h, t.main.l, t.pc, t.main.f))
      = some (0x00, 0x00, 0x0101, 0xD5) := by decide

/-- ADD HL,HL: V-A16-9. -/
theorem test_V_A16_9 :
    after (machine 0x0100 [0x29] []
      { RegSet.zero with h := 0x80, l := 0x80 }
      RegSet.zero)
      (fun t => (t.main.h, t.main.l, t.pc, t.main.f))
      = some (0x01, 0x00, 0x0101, 0x11) := by decide

/-- AND B: V-BIT-1. -/
theorem test_V_BIT_1 :
    after (machine 0x0100 [0xA0] []
      { RegSet.zero with a := 0xF0, b := 0x3C }
      RegSet.zero)
      (fun t => (t.main.a, t.pc, t.main.f))
      = some (0x30, 0x0101, 0x14) := by decide

/-- AND 0xF0: V-BIT-2. -/
theorem test_V_BIT_2 :
    after (machine 0x0100 [0xE6, 0xF0] []
      { RegSet.zero with a := 0x0F, f := 0x03 }
      RegSet.zero)
      (fun t => (t.main.a, t.pc, t.main.f))
      = some (0x00, 0x0102, 0x54) := by decide

/-- OR B: V-BIT-4. -/
theorem test_V_BIT_4 :
    after (machine 0x0100 [0xB0] []
      { RegSet.zero with a := 0x80, b := 0x01 }
      RegSet.zero)
      (fun t => (t.main.a, t.pc, t.main.f))
      = some (0x81, 0x0101, 0x84) := by decide

/-- OR 0x00: V-BIT-6. -/
theorem test_V_BIT_6 :
    after (machine 0x0100 [0xF6, 0x00] []
      { RegSet.zero with a := 0x00 }
      RegSet.zero)
      (fun t => (t.pc, t.main.f))
      = some (0x0102, 0x44) := by decide

/-- XOR C: V-BIT-8. -/
theorem test_V_BIT_8 :
    after (machine 0x0100 [0xA9] []
      { RegSet.zero with a := 0xFF, c := 0x0F }
      RegSet.zero)
      (fun t => (t.main.a, t.pc, t.main.f))
      = some (0xF0, 0x0101, 0x84) := by decide

/-- XOR 0x01: V-BIT-9. -/
theorem test_V_BIT_9 :
    after (machine 0x0100 [0xEE, 0x01] []
      { RegSet.zero with a := 0xFF }
      RegSet.zero)
      (fun t => (t.main.a, t.pc, t.main.f))
      = some (0xFE, 0x0102, 0x80) := by decide

/-- RLCA: V-BIT-10. -/
theorem test_V_BIT_10 :
    after (machine 0x0100 [0x07] []
      { RegSet.zero with a := 0x81 }
      RegSet.zero)
      (fun t => (t.main.a, t.pc, t.main.f))
      = some (0x03, 0x0101, 0x01) := by decide

/-- RLCA: V-BIT-11. -/
theorem test_V_BIT_11 :
    after (machine 0x0100 [0x07] []
      { RegSet.zero with a := 0x00, f := 0xD7 }
      RegSet.zero)
      (fun t => (t.pc, t.main.f))
      = some (0x0101, 0xC4) := by decide

/-- SCF: V-BIT-13. -/
theorem test_V_BIT_13 :
    after (machine 0x0100 [0x37] []
      { RegSet.zero with f := 0x10 }
      RegSet.zero)
      (fun t => (t.pc, t.main.f))
      = some (0x0101, 0x01) := by decide

/-- CCF: V-BIT-15. -/
theorem test_V_BIT_15 :
    after (machine 0x0100 [0x3F] []
      { RegSet.zero with f := 0x01 }
      RegSet.zero)
      (fun t => (t.pc, t.main.f))
      = some (0x0101, 0x10) := by decide

/-- CPL: V-BIT-17. -/
theorem test_V_BIT_17 :
    after (machine 0x0100 [0x2F] []
      { RegSet.zero with a := 0x5A }
      RegSet.zero)
      (fun t => (t.main.a, t.pc, t.main.f))
      = some (0xA5, 0x0101, 0x12) := by decide

/-- CPL: V-BIT-18. -/
theorem test_V_BIT_18 :
    after (machine 0x0100 [0x2F] []
      { RegSet.zero with a := 0xFF, f := 0x01 }
      RegSet.zero)
      (fun t => (t.main.a, t.pc, t.main.f))
      = some (0x00, 0x0101, 0x13) := by decide

/-- EX AF,AF': V-EXC-1. -/
theorem test_V_EXC_1 :
    after (machine 0x0100 [0x08] []
      { RegSet.zero with a := 0x12, f := 0x01 }
      { RegSet.zero with a := 0x34, f := 0x40 })
      (fun t => (t.main.a, t.shadow.a, t.shadow.f, t.pc, t.main.f))
      = some (0x34, 0x12, 0x01, 0x0101, 0x40) := by decide

/-- EXX: V-EXC-2. -/
theorem test_V_EXC_2 :
    after (machine 0x0100 [0xD9] []
      { RegSet.zero with b := 0x11, c := 0x11, d := 0x22, e := 0x22, h := 0x33, l := 0x33, a := 0x55 }
      { RegSet.zero with b := 0xAA, c := 0xAA, d := 0xBB, e := 0xBB, h := 0xCC, l := 0xCC })
      (fun t => (t.main.b, t.main.l, t.shadow.c, t.shadow.h))
      = some (0xAA, 0xCC, 0x11, 0x33) := by decide

/-- EX DE,HL: V-EXC-3. -/
theorem test_V_EXC_3 :
    after (machine 0x0100 [0xEB] []
      { RegSet.zero with d := 0x12, e := 0x34, h := 0xAB, l := 0xCD }
      RegSet.zero)
      (fun t => (t.main.d, t.main.e, t.main.h, t.main.l, t.pc, t.main.f))
      = some (0xAB, 0xCD, 0x12, 0x34, 0x0101, 0x00) := by decide

/-- EX (SP),HL: V-EXC-4. -/
theorem test_V_EXC_4 :
    after (machine 0x0100 [0xE3] [(0x8000, 0x34), (0x8001, 0x12)]
      { RegSet.zero with sp := 0x8000, h := 0xAB, l := 0xCD }
      RegSet.zero)
      (fun t => (t.main.h, t.main.l, t.pc, t.main.f, memRead 0x8000 t, memRead 0x8001 t))
      = some (0x12, 0x34, 0x0101, 0x00, 0xCD, 0xAB) := by decide

/-- EX (SP),HL: V-EXC-5. -/
theorem test_V_EXC_5 :
    after (machine 0x0100 [0xE3] [(0xFFFF, 0x34), (0x0000, 0x12)]
      { RegSet.zero with sp := 0xFFFF, h := 0xAB, l := 0xCD }
      RegSet.zero)
      (fun t => (t.main.h, t.main.l, t.pc, t.main.f, memRead 0x0000 t, memRead 0xFFFF t))
      = some (0x12, 0x34, 0x0101, 0x00, 0xAB, 0xCD) := by decide

/-- LD A,B: V-MEM-1. -/
theorem test_V_MEM_1 :
    after (machine 0x0100 [0x78] []
      { RegSet.zero with b := 0x42 }
      RegSet.zero)
      (fun t => (t.main.a, t.pc, t.main.f))
      = some (0x42, 0x0101, 0x00) := by decide

/-- LD H,(HL: V-MEM-5. -/
theorem test_V_MEM_5 :
    after (machine 0x0100 [0x66] [(0x9000, 0x5A)]
      { RegSet.zero with h := 0x90, l := 0x00 }
      RegSet.zero)
      (fun t => (t.main.h, t.pc, t.main.f))
      = some (0x5A, 0x0101, 0x00) := by decide

/-- LD (HL),L: V-MEM-7. -/
theorem test_V_MEM_7 :
    after (machine 0x0100 [0x75] []
      { RegSet.zero with h := 0x90, l := 0x12 }
      RegSet.zero)
      (fun t => (t.pc, t.main.f, memRead 0x9012 t))
      = some (0x0101, 0x00, 0x12) := by decide

/-- LD E,0x7F: V-MEM-8. -/
theorem test_V_MEM_8 :
    after (machine 0x0100 [0x1E, 0x7F] []
      RegSet.zero
      RegSet.zero)
      (fun t => (t.main.e, t.pc, t.main.f))
      = some (0x7F, 0x0102, 0x00) := by decide

/-- LD A,(0x9000: V-MEM-9. -/
theorem test_V_MEM_9 :
    after (machine 0x0100 [0x3A, 0x00, 0x90] [(0x9000, 0x77)]
      RegSet.zero
      RegSet.zero)
      (fun t => (t.main.a, t.pc, t.main.f))
      = some (0x77, 0x0103, 0x00) := by decide

/-- LD (0x0102),A: V-MEM-11. -/
theorem test_V_MEM_11 :
    after (machine 0x0100 [0x32, 0x02, 0x01] []
      { RegSet.zero with a := 0x42 }
      RegSet.zero)
      (fun t => (t.pc, t.main.f, memRead 0x0102 t))
      = some (0x0103, 0x00, 0x42) := by decide

/-- LD HL,(0xFFFF: V-MEM-13. -/
theorem test_V_MEM_13 :
    after (machine 0x0100 [0x2A, 0xFF, 0xFF] [(0xFFFF, 0x34), (0x0000, 0x12)]
      RegSet.zero
      RegSet.zero)
      (fun t => (t.main.h, t.main.l, t.pc, t.main.f))
      = some (0x12, 0x34, 0x0103, 0x00) := by decide

/-- LD (0xFFFF),HL: V-MEM-15. -/
theorem test_V_MEM_15 :
    after (machine 0x0100 [0x22, 0xFF, 0xFF] []
      { RegSet.zero with h := 0x12, l := 0x34 }
      RegSet.zero)
      (fun t => (t.pc, t.main.f, memRead 0x0000 t, memRead 0xFFFF t))
      = some (0x0103, 0x00, 0x12, 0x34) := by decide

/-- LD (HL),0xAA: V-MEM-17. -/
theorem test_V_MEM_17 :
    after (machine 0x0100 [0x36, 0xAA] []
      { RegSet.zero with h := 0x01, l := 0x00 }
      RegSet.zero)
      (fun t => (t.pc, t.main.f, memRead 0x0100 t))
      = some (0x0102, 0x00, 0xAA) := by decide

/-- PUSH BC: V-STK-1. -/
theorem test_V_STK_1 :
    after (machine 0x0100 [0xC5] []
      { RegSet.zero with sp := 0x8000, b := 0x12, c := 0x34 }
      RegSet.zero)
      (fun t => (t.main.sp, t.pc, t.main.f, memRead 0x7FFE t, memRead 0x7FFF t))
      = some (0x7FFE, 0x0101, 0x00, 0x34, 0x12) := by decide

/-- PUSH AF: V-STK-2. -/
theorem test_V_STK_2 :
    after (machine 0x0100 [0xF5] []
      { RegSet.zero with sp := 0x8000, a := 0x12, f := 0xD7 }
      RegSet.zero)
      (fun t => (t.main.sp, t.pc, t.main.f, memRead 0x7FFE t, memRead 0x7FFF t))
      = some (0x7FFE, 0x0101, 0xD7, 0xD7, 0x12) := by decide

/-- PUSH HL: V-STK-3. -/
theorem test_V_STK_3 :
    after (machine 0x0100 [0xE5] []
      { RegSet.zero with sp := 0x0000, h := 0xAB, l := 0xCD }
      RegSet.zero)
      (fun t => (t.main.sp, t.pc, t.main.f, memRead 0xFFFE t, memRead 0xFFFF t))
      = some (0xFFFE, 0x0101, 0x00, 0xCD, 0xAB) := by decide

/-- POP DE: V-STK-4. -/
theorem test_V_STK_4 :
    after (machine 0x0100 [0xD1] [(0x7FFE, 0x34), (0x7FFF, 0x12)]
      { RegSet.zero with sp := 0x7FFE }
      RegSet.zero)
      (fun t => (t.main.d, t.main.e, t.main.sp, t.pc, t.main.f))
      = some (0x12, 0x34, 0x8000, 0x0101, 0x00) := by decide

/-- POP AF: V-STK-5. -/
theorem test_V_STK_5 :
    after (machine 0x0100 [0xF1] [(0x7FFE, 0xFF), (0x7FFF, 0x00)]
      { RegSet.zero with sp := 0x7FFE }
      RegSet.zero)
      (fun t => (t.main.sp, t.pc, t.main.f))
      = some (0x8000, 0x0101, 0xFF) := by decide

/-- POP HL: V-STK-6. -/
theorem test_V_STK_6 :
    after (machine 0x0100 [0xE1] [(0xFFFF, 0xCD), (0x0000, 0xAB)]
      { RegSet.zero with sp := 0xFFFF }
      RegSet.zero)
      (fun t => (t.main.h, t.main.l, t.main.sp, t.pc, t.main.f))
      = some (0xAB, 0xCD, 0x0001, 0x0101, 0x00) := by decide

/-- 0xFE: unimplemented: V-ENG-1. -/
theorem test_V_ENG_1 :
    after (machine 0x0100 [0xFE, 0x05] []
      { RegSet.zero with a := 0x01, f := 0x01 }
      RegSet.zero)
      (fun t => (t.pc, t.main.f, t.mode, t.fault))
      = some (0x0101, 0x01, .halted, some ⟨0x0100, 0xFE⟩) := by decide

/-- LD B,0x42: V-ENGTOP-1. -/
theorem test_V_ENGTOP_1 :
    after (machine 0xFFFE [0x06, 0x42] []
      RegSet.zero
      RegSet.zero)
      (fun t => (t.main.b, t.pc, t.main.f, t.mode))
      = some (0x42, 0x0000, 0x00, .halted) := by decide

/-- 0xFF: unimplemented, at 0xFFFF: V-ENGTOP2-1. -/
theorem test_V_ENGTOP2_1 :
    after (machine 0xFFFF [0xFF] []
      RegSet.zero
      RegSet.zero)
      (fun t => (t.pc, t.main.f, t.mode, t.fault))
      = some (0x0000, 0x00, .halted, some ⟨0xFFFF, 0xFF⟩) := by decide

/-- HALT at 0xFFFF: V-ENGTOP2-2. -/
theorem test_V_ENGTOP2_2 :
    after (machine 0xFFFF [0x76] []
      RegSet.zero
      RegSet.zero)
      (fun t => (t.pc, t.main.f, t.mode))
      = some (0x0000, 0x00, .halted) := by decide

/-- The cost of a taken and of a not taken CALL (R380). -/
theorem test_cycles :
    (after (machine 0x0100 [0xC4, 0x00, 0x20] [] RegSet.zero RegSet.zero) fun t => t.cycleOutputs defaultCycleCost,
      after (machine 0x0100 [0xCC, 0x00, 0x20] [] RegSet.zero RegSet.zero) fun t => t.cycleOutputs defaultCycleCost)
      = (some [17], some [10]) := by decide

/-- A host write of a flag of the shadow set leaves the main set and the other bits (R122). -/
theorem test_host_flag :
    (hostWrite (.flag .shadow .z true) (machine 0 [] [] { RegSet.zero with f := 0x01 } RegSet.zero)).main.f = 0x01 ∧
      (hostWrite (.flag .shadow .z true) (machine 0 [] [] RegSet.zero RegSet.zero)).shadow.f = 0x40 := by decide

/-! ## Witnesses: states and operands that meet the hypotheses of each statement that has some -/

/-- NOP then HALT at 0x0100. -/
def nopHalt : State := machine 0x0100 [0x00, 0x76] [] RegSet.zero RegSet.zero

/-- A three-byte jump that ends at 0xFFFF, so its fetch reaches past the address space. -/
def jumpAtTop : State := machine 0xFFFD [0xC3, 0x00, 0x20] [] RegSet.zero RegSet.zero

/-- The one-byte NOP at 0xFFFF. -/
def nopAtTop : State := machine 0xFFFF [0x00] [] RegSet.zero RegSet.zero

/-- An unimplemented byte at 0xFFFF. -/
def failAtTop : State := machine 0xFFFF [0xFF] [] RegSet.zero RegSet.zero

theorem reset_inv : Inv State.reset := ⟨by decide, rfl, (fun _ h => nomatch h)⟩

theorem nopHalt_inv : Inv nopHalt := ⟨by decide, rfl, (fun _ h => nomatch h)⟩

theorem witness_DecodedBytesAreTheEncoding : decode [0x36, 0xAA, 0x00] = .ok (.ldAtHLImm 0xAA, [0x00]) := rfl

theorem witness_UnimplementedBytesAreDecodeFailures :
    isImplemented 0x01 = false ∧ isImplemented 0xFF = false ∧ isImplemented 0x00 = true ∧
      failAtTop.mode = .running ∧ memRead failAtTop.pc failAtTop = 0xFF := by decide

theorem witness_FetchReadsAndAdvances : nopAtTop.pc = 0xFFFF ∧ nopHalt.pc ≠ 0xFFFF := by decide

theorem witness_StepWhileHaltedDoesNothing : State.reset.mode = .halted := rfl

theorem witness_StepRunsTheDecodedInstruction :
    jumpAtTop.mode = .running ∧
      decode [memRead jumpAtTop.pc jumpAtTop, memRead (jumpAtTop.pc + 1) jumpAtTop,
        memRead (jumpAtTop.pc + 2) jumpAtTop] = .ok (.jp 0x2000, []) := ⟨rfl, rfl⟩

theorem witness_DecodeFailureIsRecordedAndPrecise :
    failAtTop.mode = .running ∧ memRead failAtTop.pc failAtTop = 0xFF ∧ isImplemented 0xFF = false := by decide

theorem witness_PcOverflowHaltsAfterTheInstruction :
    (jumpAtTop.mode = .running ∧
      decode [memRead jumpAtTop.pc jumpAtTop, memRead (jumpAtTop.pc + 1) jumpAtTop,
        memRead (jumpAtTop.pc + 2) jumpAtTop] = .ok (.jp 0x2000, []) ∧
      jumpAtTop.pc.toNat + (encode (.jp 0x2000)).length = 65536) ∧
    nopAtTop.mode = .running ∧
      decode [memRead nopAtTop.pc nopAtTop, memRead (nopAtTop.pc + 1) nopAtTop, memRead (nopAtTop.pc + 2) nopAtTop]
        = .ok (.nop, [0x00, 0x00]) ∧
      nopAtTop.pc.toNat + (encode .nop).length = 65536 :=
  ⟨⟨rfl, rfl, rfl⟩, rfl, rfl, rfl⟩

theorem witness_CreationMeetsInvariant :
    Memory.wf { PowerOn.zero with mem := [(0, 0xFF), (65535, 0x01)] }.mem = true := by decide

theorem witness_StepKeepsInvariant : Inv nopHalt ∧ ∃ t, step nopHalt = .next t := ⟨nopHalt_inv, _, rfl⟩

/-- A machine after a decode failure meets the invariant's last clause. -/
theorem witness_StepKeepsInvariant_failure :
    Inv { State.reset with fault := some { addr := 0x0100, byte := 0xFE } } :=
  ⟨by decide, rfl, fun _ h => by cases h; exact ⟨rfl, by decide⟩⟩

theorem witness_HostOperationsKeepInvariant : Inv State.reset := reset_inv

theorem witness_RunEndsInThreeWays_halt : ∃ t, RunReturns 0x0100 nopHalt .halted t ∧ t.pc = 0x0102 :=
  ⟨_, ⟨2, rfl⟩, rfl⟩

theorem witness_RunEndsInThreeWays_overflow : ∃ t, RunReturns 0xFFFF nopAtTop .halted t ∧ t.pc = 0x0000 :=
  ⟨_, ⟨1, rfl⟩, rfl⟩

theorem witness_RunEndsInThreeWays_failure :
    ∃ t, RunReturns 0xFFFF failAtTop (.decodeFailure { addr := 0xFFFF, byte := 0xFF }) t :=
  ⟨_, ⟨1, rfl⟩⟩

theorem witness_SelectiveFlagUpdate :
    Flag.c ∉ incDecFlags ∧ Flag.s ∉ [(Flag.c, true), (.h, false)].map Prod.fst ∧
      [(Flag.c, true), (.c, false)] = [(Flag.c, true)] ++ (.c, false) :: [] ∧
      Flag.c ∉ ([] : List (Flag × Bool)).map Prod.fst ∧ Flag.c ∈ carryFlags := by decide

theorem witness_FlagsOutsideAffectedSetKept : Flag.c ∉ affectedFlags .incB ∧ Flag.s ∉ affectedFlags .rlca := by
  decide

theorem witness_ReservedFlagBitsKept :
    (Instr.addAB ≠ .popAF ∧ Instr.addAB ≠ .exAFAF) ∧ ∀ v, HostWrite.flag .main .c true ≠ .f .main v :=
  ⟨by decide, (fun _ h => nomatch h)⟩

theorem witness_ShadowSetReachedOnlyByExchange : Instr.exx ≠ .exAFAF ∧ Instr.exAFAF ≠ .exx ∧ Reg.b ≠ .a := by
  decide

theorem witness_ModeWrittenOnlyByHalt :
    Instr.nop ≠ .halt ∧ State.reset.mode = .halted ∧ step State.reset = .next State.reset :=
  ⟨by decide, rfl, rfl⟩

/-- EX DE,HL is none of the instructions that write memory. -/
theorem witness_MemoryWrittenOnlyByStores :
    (∀ r, Instr.exDEHL ≠ .ldAtHLReg r) ∧ (∀ n, Instr.exDEHL ≠ .ldAtHLImm n) ∧ (∀ nn, Instr.exDEHL ≠ .ldAbsA nn) ∧
      (∀ nn, Instr.exDEHL ≠ .ldAbsHL nn) ∧ (∀ q, Instr.exDEHL ≠ .push q) ∧ (∀ nn, Instr.exDEHL ≠ .call nn) ∧
      (∀ cc nn, Instr.exDEHL ≠ .callCond cc nn) ∧ Instr.exDEHL ≠ .exSPHL :=
  ⟨(fun r h => by cases r <;> exact nomatch h), (fun _ h => nomatch h), (fun _ h => nomatch h), (fun _ h => nomatch h),
    (fun q h => by cases q <;> exact nomatch h), (fun _ h => nomatch h), (fun cc _ h => by cases cc <;> exact nomatch h),
    (fun h => nomatch h)⟩

/-- INC HL is none of the instructions that write SP or `pc`. -/
theorem witness_StackPointerAndPcWriters :
    (∀ nn, Instr.incHL ≠ .call nn) ∧ (∀ cc nn, Instr.incHL ≠ .callCond cc nn) ∧ Instr.incHL ≠ .ret ∧
      (∀ cc, Instr.incHL ≠ .retCond cc) ∧ (∀ nn, Instr.incHL ≠ .jp nn) ∧
      (∀ cc nn, Instr.incHL ≠ .jpCond cc nn) ∧ (∀ q, Instr.incHL ≠ .push q) ∧ (∀ q, Instr.incHL ≠ .pop q) ∧
      Instr.incHL ≠ .incSP ∧ Instr.incHL ≠ .decSP :=
  ⟨(fun _ h => nomatch h), (fun cc _ h => by cases cc <;> exact nomatch h), (fun h => nomatch h),
    (fun cc h => by cases cc <;> exact nomatch h), (fun _ h => nomatch h),
    (fun cc _ h => by cases cc <;> exact nomatch h), (fun q h => by cases q <;> exact nomatch h),
    (fun q h => by cases q <;> exact nomatch h), (fun h => nomatch h), (fun h => nomatch h)⟩

theorem witness_SubtractionFlagMeanings :
    (0x7F : Byte) ≠ 0x80 ∧ (addOctets 0x80 (negate8 0x01)).overflow = true ∧
      (addOctets 0x80 (negate8 0x80)).overflow = true ∧ (addOctets 0x7F (negate8 0x80)).overflow = false := by decide

/-- Both rows of the statement, and both operand forms, with a carry set. -/
theorem witness_AddAndAdcOnAccumulator :
    (AluOp.add = .add ∧ false = false ∨ AluOp.add = .adc ∧ false = true) ∧
      (AluOp.adc = .add ∧ true = false ∨ AluOp.adc = .adc ∧ true = true) ∧
      readReg .b (machine 0 [] [] { RegSet.zero with b := 0xFF, f := 0x01 } RegSet.zero) = 0xFF := by decide

theorem witness_SubAndSbcOnAccumulator :
    (AluOp.sub = .sub ∧ false = false ∨ AluOp.sub = .sbc ∧ false = true) ∧
      (AluOp.sbc = .sub ∧ true = false ∨ AluOp.sbc = .sbc ∧ true = true) ∧
      readReg .l (machine 0 [] [] { RegSet.zero with l := 0x80 } RegSet.zero) = 0x80 ∧
      (0x7F : Byte) + 1 = 0x80 ∧ (0xFF : Byte) + 1 ≠ 0x80 := by decide

theorem witness_IncAndDecPair : RegPair.sp ≠ .hl ∧ RegPair.bc ≠ .sp := by decide

theorem witness_LogicOnAccumulator :
    readReg .c (machine 0 [] [] { RegSet.zero with a := 0xF0, c := 0x3C } RegSet.zero) = 0x3C ∧
      (0xF0 : Byte) &&& 0x3C = 0x30 := by decide

theorem witness_ExchangeWithShadowSet : Reg.b ≠ .a ∧ Reg.l ≠ .a := by decide

theorem witness_NopAndHalt :
    (machine 0xFFFF [0x76] [] RegSet.zero RegSet.zero).mode = .running ∧
      memRead 0xFFFF (machine 0xFFFF [0x76] [] RegSet.zero RegSet.zero) = 0x76 := by decide

/-- Each condition holds in one state and fails in another. -/
theorem witness_conditions :
    ∀ cc ∈ [Cond.nz, .z, .nc, .c, .po, .pe, .p, .m],
      (holds cc (machine 0 [] [] { RegSet.zero with f := 0x00 } RegSet.zero) !=
        holds cc (machine 0 [] [] { RegSet.zero with f := 0xC5 } RegSet.zero)) = true := by decide

/-- The premises of a taken and a not taken jump, call and return. -/
theorem witness_Jumps_Calls_Returns :
    holds .m (machine 0 [] [] { RegSet.zero with f := 0x80 } RegSet.zero) = true ∧
      holds .m (machine 0 [] [] RegSet.zero RegSet.zero) = false ∧
      (∃ cc, Instr.callM 0x2000 = .callCond cc 0x2000 ∧ cc = .m) ∧ ∃ cc, Instr.retM = .retCond cc ∧ cc = .m :=
  ⟨by decide, by decide, ⟨.m, rfl, rfl⟩, .m, rfl, rfl⟩

theorem witness_PopLoadsThePair : StackPair.af ≠ .bc ∧ StackPair.hl ≠ .af := by decide

theorem witness_MemoryReadAfterWrite : (0x0000 : Word) ≠ 0xFFFF ∧ (0xFFFE : Word) ≠ 0xFFFF + 1 := by decide

theorem witness_CanonicalMemoriesAreEqual :
    Memory.wf [(0, 0x01), (65535, 0x02)] = true ∧ Memory.wf [(65535, 0x00)] = false := by decide

/-- A taken CALL cc, and memory that a later state shares. -/
theorem witness_StoreIsSeenByNextFetch :
    (∃ cc, Instr.callM 0x2000 = .callCond cc 0x2000 ∧
      holds cc (machine 0 [] [] { RegSet.zero with f := 0x80 } RegSet.zero) = true) ∧
      (goto 0x1234 nopHalt).mem = nopHalt.mem :=
  ⟨⟨.m, rfl, by decide⟩, rfl⟩

theorem witness_HostWritesTheNamedElement :
    Reg.l ≠ .a ∧ Flag.s ≠ .c ∧ Bank.shadow ≠ .main ∧ (0 : Nat) ∉ [(0xFFFF : Word)].map BitVec.toNat := by decide

theorem witness_LoadAtIsAllOrNothing :
    (loadAt { address := 0xFFFF, program := [0x76] } State.reset).1 = true ∧
      (loadAt { address := 0xFFFF, program := [0x76, 0x76] } State.reset).1 = false ∧
      (loadAt { address := 0x0000, program := [] } State.reset).1 = true := by decide

theorem witness_CycleHookOncePerInstruction :
    stepReturns State.reset = .halted ∧ stepReturns nopHalt = .executed ∧
      stepReturns failAtTop = .decodeFailure { addr := 0xFFFF, byte := 0xFF } ∧
      Instr.retM = .retCond .m := by decide

end Sys2Proof.Tests
end

section
/-! # The invariant (10_state.md R33, R34, R38; 20_memory.md R50): at creation, and over one step. -/

namespace Sys2Proof.Machine

/-- A machine at creation has no fault record, so only its memory has to be canonical. -/
theorem create_inv (p : PowerOn) (h : p.mem.wf = true) : Inv (State.create p) where
  memory := h
  latch := rfl
  failure _ hd := nomatch hd

/-- Settles O14: the invariant at creation, and at reset, whose memory is empty. -/
theorem creationMeetsInvariant : Obligations.CreationMeetsInvariant :=
  ⟨create_inv, create_inv PowerOn.zero Memory.nil_wf⟩

/-- A Running machine that meets the invariant has no fault record. -/
theorem Inv.fault_eq_none {s : State} (h : Inv s) (running : s.mode = .running) : s.fault = none := by
  cases hf : s.fault with
  | none => rfl
  | some d => exact absurd ((h.failure d hf).1.symm.trans running) (by decide)

theorem isImplemented_eq_false {op : Byte} (h : formatOf op = .unimplemented) : isImplemented op = false := by
  rw [isImplemented, h]; rfl

/-- A decode failure records an unimplemented byte and halts (R341). -/
theorem raiseDecodeFailure_inv {s : State} (wf : s.mem.wf = true) (addr : Word) {op : Byte}
    (h : formatOf op = .unimplemented) : Inv (raiseDecodeFailure addr op s) where
  memory := wf
  latch := rfl
  failure d hd := by
    obtain rfl : { addr := addr, byte := op } = d := Option.some.inj hd
    exact ⟨rfl, isImplemented_eq_false h⟩

/-- The end of a step clears the latch (R114); without a fault record nothing else is left to show. -/
theorem endStep_inv {s : State} (wf : s.mem.wf = true) (noFault : s.fault = none) (i : Instr) (p : Path) :
    Inv (endStep i p s) where
  memory := by rwa [endStep_mem]
  latch := endStep_pcOverflowed i p s
  failure d hd := by rw [endStep_fault, noFault] at hd; exact nomatch hd

/-- Settles O15, by the three things a step can do: an instruction keeps the canonical memory and the fault record,
which is absent because the machine was Running. -/
theorem stepKeepsInvariant : Obligations.StepKeepsInvariant := by
  intro s t hs ht
  rcases step_cases s with ⟨_, h⟩ | ⟨pc, latch, _, hop, h⟩ | ⟨i, pc, latch, u, running, _, _, effect, h⟩ <;>
    obtain rfl := Host.Outcome.next.inj (h.symm.trans ht)
  · exact hs
  · exact raiseDecodeFailure_inv (by exact hs.memory) s.pc hop
  · exact endStep_inv (effect.memoryWf hs.memory) (effect.fault.trans (hs.fault_eq_none running)) i _

end Sys2Proof.Machine
end

section
/-! # The selective flag update (10_state.md R28), over the list of values. -/

namespace Sys2Proof.Machine

theorem applyFlags_append (affected : List Flag) (pre post : List (Flag × Bool)) (f : Byte) :
    applyFlags affected (pre ++ post) f = applyFlags affected post (applyFlags affected pre f) := by
  induction pre generalizing f with
  | nil => rfl
  | cons e pre ih => exact ih _

/-- With no affected flag, F is as before. -/
@[simp] theorem applyFlags_nil_affected (values : List (Flag × Bool)) (f : Byte) : applyFlags [] values f = f := by
  induction values generalizing f with
  | nil => rfl
  | cons e values ih => exact ih f

theorem getFlag_applyFlags_unlisted (affected : List Flag) {values : List (Flag × Bool)} (f : Byte) {x : Flag}
    (h : x ∉ values.map Prod.fst) : getFlag x (applyFlags affected values f) = getFlag x f := by
  induction values generalizing f with
  | nil => rfl
  | cons e values ih =>
    obtain ⟨y, v⟩ := e
    obtain ⟨hy, hvalues⟩ := List.ne_and_not_mem_of_not_mem_cons h
    rw [getFlag_applyFlags_cons, ih _ hvalues]
    split
    · exact getFlag_setFlag_other v f hy
    · rfl

theorem getFlag_applyFlags_unaffected {affected : List Flag} (values : List (Flag × Bool)) (f : Byte) {x : Flag}
    (h : x ∉ affected) : getFlag x (applyFlags affected values f) = getFlag x f :=
  applyFlags_getLsbD_other affected values f x.bit (by cases x <;> decide) fun y hy e =>
    h (Flag.bit_inj e ▸ hy)

/-- The last value listed for an affected flag is the one it takes. -/
theorem getFlag_applyFlags_last {affected : List Flag} (pre : List (Flag × Bool)) {post : List (Flag × Bool)}
    (f : Byte) {x : Flag} (v : Bool) (last : x ∉ post.map Prod.fst) (h : x ∈ affected) :
    getFlag x (applyFlags affected (pre ++ (x, v) :: post) f) = v := by
  rw [applyFlags_append, getFlag_applyFlags_cons, getFlag_applyFlags_unlisted affected _ last, if_pos h,
    getFlag_setFlag_same]

/-- Settles O18: a flag outside the set or not listed, the last value listed, and the reserved bits. -/
theorem selectiveFlagUpdate : Obligations.SelectiveFlagUpdate := by
  intro affected values f
  refine ⟨?_, ?_, applyFlags_reserved affected values f⟩
  · rintro x (unaffected | unlisted)
    · exact getFlag_applyFlags_unaffected values f unaffected
    · exact getFlag_applyFlags_unlisted affected f unlisted
  · rintro x v pre post rfl last h
    exact getFlag_applyFlags_last pre f v last h

end Sys2Proof.Machine
end

section
/-! # Every instruction belongs to a family

The constructors of `Instr` are the 202 rows of the opcode table; the bit patterns of 30_encoding.md R82 build them
from families with operand fields. What holds of every family's operation holds of every instruction
(`exec_meaning`): an instruction is what the decoder reads from its own encoding, and the decoder builds families. -/

namespace Sys2Proof.Machine

/-! ## What `exec` runs for each family with an operand field -/

/-- The accumulator operation of a `kkk` field with its operand (43_arith8.md R180 to R187, 45_bitwise.md R231 to
R236). -/
def operateAlu (op : AluOp) (b : Byte) (s : State) : State :=
  match op with
  | .add => operateOnRegister .add .a b arith8Flags s
  | .adc => operateOnRegister .adc .a b arith8Flags s
  | .sub => operateOnRegister .sub .a b arith8Flags s
  | .sbc => operateOnRegister .sbc .a b arith8Flags s
  | .and => operateLogic .and b s
  | .xor => operateLogic .xor b s
  | .or => operateLogic .or b s

section Exec

variable (s : State)

theorem exec_ldReg (dst src : Reg) : exec (.ldReg dst src) s = .next (moveReg dst src s) := by
  cases dst <;> cases src <;> rfl
theorem exec_ldRegAtHL (r : Reg) : exec (.ldRegAtHL r) s = .next (loadAtHL r s) := by cases r <;> rfl
theorem exec_ldAtHLReg (r : Reg) : exec (.ldAtHLReg r) s = .next (storeAtHL r s) := by cases r <;> rfl
theorem exec_ldRegImm (r : Reg) (n : Byte) : exec (.ldRegImm r n) s = .next (loadImm r n s) := by cases r <;> rfl
theorem exec_incReg (r : Reg) : exec (.incReg r) s = .next (incRegister r s) := by cases r <;> rfl
theorem exec_decReg (r : Reg) : exec (.decReg r) s = .next (decRegister r s) := by cases r <;> rfl
theorem exec_aluReg (op : AluOp) (r : Reg) :
    exec (.aluReg op r) s = .next (operateAlu op (readReg r s) s) := by
  cases op <;> cases r <;> rfl
theorem exec_aluImm (op : AluOp) (n : Byte) : exec (.aluImm op n) s = .next (operateAlu op n s) := by
  cases op <;> rfl
theorem exec_incPair (p : RegPair) : exec (.incPair p) s = .next (incPair p s) := by cases p <;> rfl
theorem exec_decPair (p : RegPair) : exec (.decPair p) s = .next (decPair p s) := by cases p <;> rfl
theorem exec_addHL (p : RegPair) : exec (.addHL p) s = .next (addToHL p s) := by cases p <;> rfl
theorem exec_push (q : StackPair) : exec (.push q) s = .next (pushPair q s) := by cases q <;> rfl
theorem exec_pop (q : StackPair) : exec (.pop q) s = .next (popPair q s) := by cases q <;> rfl
theorem exec_jpCond (cc : Cond) (nn : Word) : exec (.jpCond cc nn) s = .next (jumpIf cc nn s) := by
  cases cc <;> rfl
theorem exec_callCond (cc : Cond) (nn : Word) : exec (.callCond cc nn) s = .next (callIf cc nn s) := by
  cases cc <;> rfl
theorem exec_retCond (cc : Cond) : exec (.retCond cc) s = .next (returnIf cc s) := by cases cc <;> rfl

end Exec

/-! ## A property of every family -/

/-- A property of every family of instructions with the operation that is its meaning. -/
structure Meanings (P : Instr → (State → State) → Prop) : Prop where
  nop : P .nop noOperation
  halt : P .halt haltProcessor
  jp (nn : Word) : P (.jp nn) (jump nn)
  jpCond (cc : Cond) (nn : Word) : P (.jpCond cc nn) (jumpIf cc nn)
  call (nn : Word) : P (.call nn) (callSub nn)
  callCond (cc : Cond) (nn : Word) : P (.callCond cc nn) (callIf cc nn)
  ret : P .ret returnFromSub
  retCond (cc : Cond) : P (.retCond cc) (returnIf cc)
  incReg (r : Reg) : P (.incReg r) (incRegister r)
  decReg (r : Reg) : P (.decReg r) (decRegister r)
  aluReg (op : AluOp) (r : Reg) : P (.aluReg op r) (fun s => operateAlu op (readReg r s) s)
  aluImm (op : AluOp) (n : Byte) : P (.aluImm op n) (operateAlu op n)
  incPair (p : RegPair) : P (.incPair p) (incPair p)
  decPair (p : RegPair) : P (.decPair p) (decPair p)
  addHL (p : RegPair) : P (.addHL p) (addToHL p)
  rlca : P .rlca rotateALeft
  cpl : P .cpl complementA
  scf : P .scf setCarry
  ccf : P .ccf complementCarry
  exAFAF : P .exAFAF exchangeAF
  exx : P .exx exchangeGeneral
  exSPHL : P .exSPHL exchangeStackHL
  exDEHL : P .exDEHL exchangeDEHL
  ldReg (dst src : Reg) : P (.ldReg dst src) (moveReg dst src)
  ldRegAtHL (r : Reg) : P (.ldRegAtHL r) (loadAtHL r)
  ldAtHLReg (r : Reg) : P (.ldAtHLReg r) (storeAtHL r)
  ldRegImm (r : Reg) (n : Byte) : P (.ldRegImm r n) (loadImm r n)
  ldAtHLImm (n : Byte) : P (.ldAtHLImm n) (storeImmAtHL n)
  ldAAbs (nn : Word) : P (.ldAAbs nn) (loadAAbs nn)
  ldAbsA (nn : Word) : P (.ldAbsA nn) (storeAAbs nn)
  ldHLAbs (nn : Word) : P (.ldHLAbs nn) (loadHLAbs nn)
  ldAbsHL (nn : Word) : P (.ldAbsHL nn) (storeHLAbs nn)
  push (q : StackPair) : P (.push q) (pushPair q)
  pop (q : StackPair) : P (.pop q) (popPair q)

/-- An instruction whose meaning is an operation that has the property. -/
def MeaningHas (P : Instr → (State → State) → Prop) (i : Instr) : Prop :=
  ∃ op, (∀ s, exec i s = .next (op s)) ∧ P i op

/-- A property of every instruction a format builds from operand bytes. -/
def EveryBuilt (P : Instr → Prop) : Format → Prop
  | .f1 i => P i
  | .f2 mk => ∀ n, P (mk n)
  | .f3 mk => ∀ nn, P (mk nn)
  | .unimplemented => True

theorem withReg_all {P : Instr → Prop} (code : Nat) {k : Reg → Format} (h : ∀ r, EveryBuilt P (k r)) :
    EveryBuilt P (withReg code k) := by
  unfold withReg
  split
  · exact h _
  · trivial

theorem withAlu_all {P : Instr → Prop} (code : Nat) {k : AluOp → Format} (h : ∀ o, EveryBuilt P (k o)) :
    EveryBuilt P (withAlu code k) := by
  unfold withAlu
  split
  · exact h _
  · trivial

section Formats

variable {P : Instr → (State → State) → Prop} (h : Meanings P) (y z : Nat)

include h

theorem format00_all : EveryBuilt (MeaningHas P) (format00 y z) := by
  unfold format00
  split
  · exact ⟨_, fun _ => rfl, h.nop⟩
  · exact ⟨_, fun _ => rfl, h.exAFAF⟩
  · split
    · exact ⟨_, fun s => exec_addHL s _, h.addHL _⟩
    · trivial
  · exact fun nn => ⟨_, fun _ => rfl, h.ldAbsHL nn⟩
  · exact fun nn => ⟨_, fun _ => rfl, h.ldHLAbs nn⟩
  · exact fun nn => ⟨_, fun _ => rfl, h.ldAbsA nn⟩
  · exact fun nn => ⟨_, fun _ => rfl, h.ldAAbs nn⟩
  · split
    · exact ⟨_, fun s => exec_incPair s _, h.incPair _⟩
    · exact ⟨_, fun s => exec_decPair s _, h.decPair _⟩
  · exact withReg_all _ fun r => ⟨_, fun s => exec_incReg s r, h.incReg r⟩
  · exact withReg_all _ fun r => ⟨_, fun s => exec_decReg s r, h.decReg r⟩
  · exact fun n => ⟨_, fun _ => rfl, h.ldAtHLImm n⟩
  · exact withReg_all _ fun r n => ⟨_, fun s => exec_ldRegImm s r n, h.ldRegImm r n⟩
  · exact ⟨_, fun _ => rfl, h.rlca⟩
  · exact ⟨_, fun _ => rfl, h.cpl⟩
  · exact ⟨_, fun _ => rfl, h.scf⟩
  · exact ⟨_, fun _ => rfl, h.ccf⟩
  · trivial

theorem format01_all : EveryBuilt (MeaningHas P) (format01 y z) := by
  unfold format01
  split
  · exact ⟨_, fun _ => rfl, h.halt⟩
  · exact withReg_all _ fun r => ⟨_, fun s => exec_ldRegAtHL s r, h.ldRegAtHL r⟩
  · exact withReg_all _ fun r => ⟨_, fun s => exec_ldAtHLReg s r, h.ldAtHLReg r⟩
  · exact withReg_all _ fun dst => withReg_all _ fun src =>
      ⟨_, fun s => exec_ldReg s dst src, h.ldReg dst src⟩

theorem format10_all : EveryBuilt (MeaningHas P) (format10 y z) :=
  withAlu_all _ fun op => withReg_all _ fun r => ⟨_, fun s => exec_aluReg s op r, h.aluReg op r⟩

theorem format11_all : EveryBuilt (MeaningHas P) (format11 y z) := by
  unfold format11
  split
  · exact ⟨_, fun s => exec_retCond s _, h.retCond _⟩
  · exact ⟨_, fun _ => rfl, h.ret⟩
  · exact ⟨_, fun _ => rfl, h.exx⟩
  · split
    · exact ⟨_, fun s => exec_pop s _, h.pop _⟩
    · trivial
  · exact fun nn => ⟨_, fun s => exec_jpCond s _ nn, h.jpCond _ nn⟩
  · exact fun nn => ⟨_, fun _ => rfl, h.jp nn⟩
  · exact ⟨_, fun _ => rfl, h.exSPHL⟩
  · exact ⟨_, fun _ => rfl, h.exDEHL⟩
  · exact fun nn => ⟨_, fun s => exec_callCond s _ nn, h.callCond _ nn⟩
  · exact fun nn => ⟨_, fun _ => rfl, h.call nn⟩
  · split
    · exact ⟨_, fun s => exec_push s _, h.push _⟩
    · trivial
  · exact withAlu_all _ fun op n => ⟨_, fun s => exec_aluImm s op n, h.aluImm op n⟩
  · trivial

theorem formatOf_all (op : Byte) : EveryBuilt (MeaningHas P) (formatOf op) := by
  unfold formatOf
  dsimp only
  split
  · exact format00_all h _ _
  · exact format01_all h _ _
  · exact format10_all h _ _
  · exact format11_all h _ _

end Formats

/-- The first byte of every encoding selects the format that rebuilds the instruction. -/
theorem formatOf_encoding (i : Instr) : Laws.FormatOfEncoding.Statement i := by
  cases i <;>
    first
    | exact .inl ⟨_, rfl, rfl⟩
    | exact .inr (.inl ⟨_, _, _, rfl, rfl, rfl⟩)
    | exact .inr (.inr ⟨_, _, _, rfl, rfl, rfl⟩)

/-- What holds of every family's operation holds of every instruction's meaning. -/
theorem exec_meaning {P : Instr → (State → State) → Prop} (h : Meanings P) (i : Instr) : MeaningHas P i := by
  obtain ⟨op, -, hf⟩ | ⟨op, n, mk, -, hf, rfl⟩ | ⟨op, nn, mk, -, hf, rfl⟩ := formatOf_encoding i <;>
    have all := formatOf_all h op <;> rw [hf] at all
  · exact all
  · exact all n
  · exact all nn

end Sys2Proof.Machine
end

section
/-! # What each instruction writes (10_state.md R36)

`exec_effect` says what an instruction can do without saying which instruction does it. `Writes` names the
instruction, and follows SP, F, `pc`, the mode and the shadow set; the statements about who writes them are case
analyses of it. -/

namespace Sys2Proof.Machine

/-- The instructions that write SP, calls and returns apart. -/
inductive MovesStackPointer : Instr → Prop
  | push (q : StackPair) : MovesStackPointer (.push q)
  | pop (q : StackPair) : MovesStackPointer (.pop q)
  | incSP : MovesStackPointer .incSP
  | decSP : MovesStackPointer .decSP

/-- JP and JP cc. -/
inductive Jumps : Instr → Prop
  | jp (nn : Word) : Jumps (.jp nn)
  | jpCond (cc : Cond) (nn : Word) : Jumps (.jpCond cc nn)

/-- The instructions that write both SP and `pc`. -/
inductive CallsOrReturns : Instr → Prop
  | call (nn : Word) : CallsOrReturns (.call nn)
  | callCond (cc : Cond) (nn : Word) : CallsOrReturns (.callCond cc nn)
  | ret : CallsOrReturns .ret
  | retCond (cc : Cond) : CallsOrReturns (.retCond cc)

/-- What an instruction makes of a state: the second state is the first with only these parts written. -/
inductive Writes (s : State) : Instr → State → Prop
  /-- Memory, operand registers, and F by the selective update under the affected set. -/
  | data {i : Instr} (mem : Memory) (m : RegSet) (values : List (Flag × Bool)) (sp : m.sp = s.main.sp)
      (f : m.f = applyFlags (affectedFlags i) values s.main.f) : Writes s i ((s.setMem mem).setMain m)
  /-- Memory and the main set, of which F only by POP AF. -/
  | stackPointer {i : Instr} (mem : Memory) (m : RegSet) (moves : MovesStackPointer i)
      (f : i ≠ .popAF → m.f = s.main.f) : Writes s i ((s.setMem mem).setMain m)
  /-- `pc`. -/
  | jump {i : Instr} (pc : Word) (jumps : Jumps i) : Writes s i (s.setPc pc)
  /-- Memory, the main set without F, and `pc`. -/
  | subroutine {i : Instr} (mem : Memory) (m : RegSet) (pc : Word) (callsOrReturns : CallsOrReturns i)
      (f : m.f = s.main.f) : Writes s i (((s.setMem mem).setMain m).setPc pc)
  /-- The mode. -/
  | halt : Writes s .halt (s.setMode .halted)
  /-- A and F with their shadows. -/
  | exAFAF : Writes s .exAFAF (exchangeAF s)
  /-- The other six registers with their shadows. -/
  | exx : Writes s .exx (exchangeGeneral s)

/-! ## The shared shapes of the families -/

section Shapes

variable (s : State) {i : Instr}

theorem Writes.nothing : Writes s i s := .data s.mem s.main [] rfl rfl

theorem Writes.register (r : Reg) (v : Byte) : Writes s i (writeReg r v s) :=
  .data s.mem _ [] (RegSet.set_sp s.main r v) (RegSet.set_f s.main r v)

theorem Writes.memory (mem : Memory) : Writes s i (s.setMem mem) := .data mem s.main [] rfl rfl

theorem Writes.flags {affected : List Flag} (h : affectedFlags i = affected) (values : List (Flag × Bool)) :
    Writes s i (updateFlags affected values s) :=
  .data s.mem _ values rfl (h ▸ rfl)

theorem Writes.registerAndFlags {affected : List Flag} (h : affectedFlags i = affected)
    (values : List (Flag × Bool)) (r : Reg) (v : Byte) :
    Writes s i (updateFlags affected values (writeReg r v s)) :=
  .data s.mem _ values (RegSet.set_sp s.main r v) (by
    rw [h]; exact congrArg (applyFlags affected values) (RegSet.set_f s.main r v))

theorem Writes.pairAndFlags {affected : List Flag} (h : affectedFlags i = affected) (values : List (Flag × Bool))
    (p : RegPair) (v : Word) (hp : p ≠ .sp) : Writes s i (updateFlags affected values (writePair p v s)) := by
  subst h
  cases p with
  | bc => exact .data s.mem _ values rfl rfl
  | de => exact .data s.mem _ values rfl rfl
  | hl => exact .data s.mem _ values rfl rfl
  | sp => exact absurd rfl hp

theorem Writes.pairSP (moves : MovesStackPointer i) (values : List (Flag × Bool)) (v : Word) :
    Writes s i (updateFlags [] values (writePair .sp v s)) :=
  .stackPointer s.mem _ moves fun _ => applyFlags_nil_affected values s.main.f

end Shapes

/-! ## The affected sets, by family -/

theorem affectedFlags_aluReg (op : AluOp) (r : Reg) : affectedFlags (.aluReg op r) = [.s, .z, .h, .pv, .n, .c] := by
  cases op <;> cases r <;> rfl

theorem affectedFlags_aluImm (op : AluOp) (n : Byte) : affectedFlags (.aluImm op n) = [.s, .z, .h, .pv, .n, .c] := by
  cases op <;> rfl

theorem affectedFlags_incReg (r : Reg) : affectedFlags (.incReg r) = incDecFlags := by cases r <;> rfl

theorem affectedFlags_addHL (p : RegPair) : affectedFlags (.addHL p) = carryFlags := by cases p <;> rfl

theorem affectedFlags_decReg (r : Reg) : affectedFlags (.decReg r) = incDecFlags := by cases r <;> rfl

/-! ## The families -/

section Families

variable (s : State)

theorem operateAlu_writes {i : Instr} (h : affectedFlags i = [.s, .z, .h, .pv, .n, .c]) (op : AluOp) (b : Byte) :
    Writes s i (operateAlu op b s) := by
  cases op <;> exact .registerAndFlags s h _ _ _

/-- INC SP and DEC SP write SP; the other pairs are operand registers. No flag is affected (R210, R211). -/
theorem incPair_writes (p : RegPair) : Writes s (.incPair p) (incPair p s) := by
  cases p with
  | bc => exact .pairAndFlags s rfl _ .bc _ (by decide)
  | de => exact .pairAndFlags s rfl _ .de _ (by decide)
  | hl => exact .pairAndFlags s rfl _ .hl _ (by decide)
  | sp => exact .pairSP s .incSP _ _

theorem decPair_writes (p : RegPair) : Writes s (.decPair p) (decPair p s) := by
  cases p with
  | bc => exact .pairAndFlags s rfl _ .bc _ (by decide)
  | de => exact .pairAndFlags s rfl _ .de _ (by decide)
  | hl => exact .pairAndFlags s rfl _ .hl _ (by decide)
  | sp => exact .pairSP s .decSP _ _

theorem popPair_writes (q : StackPair) : Writes s (.pop q) (popPair q s) := by
  cases q with
  | af => exact .stackPointer s.mem _ (.pop .af) fun h => absurd rfl h
  | bc => exact .stackPointer s.mem _ (.pop .bc) fun _ => rfl
  | de => exact .stackPointer s.mem _ (.pop .de) fun _ => rfl
  | hl => exact .stackPointer s.mem _ (.pop .hl) fun _ => rfl

theorem jumpIf_writes (cc : Cond) (nn : Word) : Writes s (.jpCond cc nn) (jumpIf cc nn s) := by
  unfold jumpIf
  split
  · exact .jump nn (.jpCond cc nn)
  · exact .nothing s

theorem callIf_writes (cc : Cond) (nn : Word) : Writes s (.callCond cc nn) (callIf cc nn s) := by
  unfold callIf
  split
  · exact .subroutine _ _ _ (.callCond cc nn) rfl
  · exact .nothing s

theorem returnIf_writes (cc : Cond) : Writes s (.retCond cc) (returnIf cc s) := by
  unfold returnIf
  split
  · exact .subroutine s.mem _ _ (.retCond cc) rfl
  · exact .nothing s

end Families

theorem meanings_writes : Meanings fun i op => ∀ s, Writes s i (op s) where
  nop s := .nothing s
  halt _ := .halt
  jp nn _ := .jump nn (.jp nn)
  jpCond cc nn s := jumpIf_writes s cc nn
  call nn _ := .subroutine _ _ _ (.call nn) rfl
  callCond cc nn s := callIf_writes s cc nn
  ret s := .subroutine s.mem _ _ .ret rfl
  retCond cc s := returnIf_writes s cc
  incReg r s := .registerAndFlags s (affectedFlags_incReg r) _ _ _
  decReg r s := .registerAndFlags s (affectedFlags_decReg r) _ _ _
  aluReg op r s := operateAlu_writes s (affectedFlags_aluReg op r) op _
  aluImm op n s := operateAlu_writes s (affectedFlags_aluImm op n) op n
  incPair p s := incPair_writes s p
  decPair p s := decPair_writes s p
  addHL p s := .pairAndFlags s (affectedFlags_addHL p) _ .hl _ (by decide)
  rlca s := .registerAndFlags s rfl _ _ _
  cpl s := .registerAndFlags s rfl _ _ _
  scf s := .flags s rfl _
  ccf s := .flags s rfl _
  exAFAF _ := .exAFAF
  exx _ := .exx
  exSPHL _ := .data _ _ [] rfl rfl
  exDEHL s := .data s.mem _ [] rfl rfl
  ldReg dst _ s := .register s dst _
  ldRegAtHL r s := .register s r _
  ldAtHLReg _ s := .memory s _
  ldRegImm r n s := .register s r n
  ldAtHLImm _ s := .memory s _
  ldAAbs _ s := .register s .a _
  ldAbsA _ s := .memory s _
  ldHLAbs _ s := .data s.mem _ [] rfl rfl
  ldAbsHL _ s := .memory s _
  push q _ := .stackPointer _ _ (.push q) fun _ => rfl
  pop q s := popPair_writes s q

/-- Every instruction answers a next state and has written only its own parts of the state. -/
theorem exec_writes (i : Instr) (s : State) : ∃ t, exec i s = .next t ∧ Writes s i t := by
  obtain ⟨op, run, writes⟩ := exec_meaning meanings_writes i
  exact ⟨op s, run s, writes s⟩

end Sys2Proof.Machine
end

section
/-! # Who writes F, the shadow set, the mode, `pc` and SP: case analyses of `Writes`. -/

namespace Sys2Proof.Machine

section Writers

variable {s t : State} {i : Instr} (h : Writes s i t)

include h

/-- F is written whole by POP AF and EX AF,AF' only; every other instruction updates it under its affected set. -/
theorem Writes.f_selective (hpop : i ≠ .popAF) (hex : i ≠ .exAFAF) :
    ∃ values, t.main.f = applyFlags (affectedFlags i) values s.main.f := by
  cases h with
  | data mem m values sp f => exact ⟨values, f⟩
  | stackPointer mem m moves f => exact ⟨[], f hpop⟩
  | subroutine mem m pc callsOrReturns f => exact ⟨[], f⟩
  | exAFAF => exact absurd rfl hex
  | jump | halt | exx => exact ⟨[], rfl⟩

theorem Writes.flag_eq {x : Flag} (hx : x ∉ affectedFlags i) : flag x t = flag x s := by
  have hpop : i ≠ .popAF := by rintro rfl; cases x <;> exact absurd hx (by decide)
  have hex : i ≠ .exAFAF := by rintro rfl; cases x <;> exact absurd hx (by decide)
  obtain ⟨values, f⟩ := h.f_selective hpop hex
  rw [flag, f, getFlag_applyFlags_unaffected values _ hx, flag]

theorem Writes.reserved (hpop : i ≠ .popAF) (hex : i ≠ .exAFAF) :
    t.main.f.getLsbD 3 = s.main.f.getLsbD 3 ∧ t.main.f.getLsbD 5 = s.main.f.getLsbD 5 := by
  obtain ⟨values, f⟩ := h.f_selective hpop hex
  rw [f]
  exact applyFlags_reserved _ values _

theorem Writes.shadow_af (hex : i ≠ .exAFAF) : t.shadow.a = s.shadow.a ∧ t.shadow.f = s.shadow.f := by
  cases h with
  | exAFAF => exact absurd rfl hex
  | _ => exact ⟨rfl, rfl⟩

theorem Writes.shadow_general (hexx : i ≠ .exx) {r : Reg} (hr : r ≠ .a) : t.shadow.get r = s.shadow.get r := by
  cases h with
  | exx => exact absurd rfl hexx
  | exAFAF =>
    cases r with
    | a => exact absurd rfl hr
    | _ => rfl
  | _ => rfl

theorem Writes.mode (hhalt : i ≠ .halt) : t.mode = s.mode := by
  cases h with
  | halt => exact absurd rfl hhalt
  | _ => rfl

theorem Writes.pc (hjump : ¬Jumps i) (hcall : ¬CallsOrReturns i) : t.pc = s.pc := by
  cases h with
  | jump pc jumps => exact absurd jumps hjump
  | subroutine mem m pc callsOrReturns f => exact absurd callsOrReturns hcall
  | _ => rfl

theorem Writes.sp (hmoves : ¬MovesStackPointer i) (hcall : ¬CallsOrReturns i) : t.main.sp = s.main.sp := by
  cases h with
  | data mem m values sp f => exact sp
  | stackPointer mem m moves f => exact absurd moves hmoves
  | subroutine mem m pc callsOrReturns f => exact absurd callsOrReturns hcall
  | _ => rfl

end Writers

/-- Settles O19: the selective update keeps a flag outside the affected set; POP AF and EX AF,AF' affect all six. -/
theorem flagsOutsideAffectedSetKept : Obligations.FlagsOutsideAffectedSetKept := by
  intro i s
  obtain ⟨t, run, writes⟩ := exec_writes i s
  exact ⟨t, run, fun _ hx => writes.flag_eq hx⟩

/-- A write of one flag keeps the reserved bits: it is a selective update of that flag alone. -/
theorem setFlag_reserved (x : Flag) (v : Bool) (f : Byte) :
    (setFlag x v f).getLsbD 3 = f.getLsbD 3 ∧ (setFlag x v f).getLsbD 5 = f.getLsbD 5 := by
  have h := applyFlags_reserved [x] [(x, v)] f
  rwa [applyFlags, if_pos (List.mem_singleton_self x), applyFlags] at h

/-- A host write keeps the reserved bits of F unless it writes the whole byte of the main set. -/
theorem hostWrite_reserved (w : HostWrite) (s : State) (hw : ∀ v, w ≠ .f .main v) :
    (hostWrite w s).main.f.getLsbD 3 = s.main.f.getLsbD 3 ∧
      (hostWrite w s).main.f.getLsbD 5 = s.main.f.getLsbD 5 := by
  cases w with
  | reg bank r v =>
    cases bank with
    | main => exact ⟨congrArg (·.getLsbD 3) (RegSet.set_f ..), congrArg (·.getLsbD 5) (RegSet.set_f ..)⟩
    | shadow => exact ⟨rfl, rfl⟩
  | f bank v =>
    cases bank with
    | main => exact absurd rfl (hw v)
    | shadow => exact ⟨rfl, rfl⟩
  | flag bank x v =>
    cases bank with
    | main => exact setFlag_reserved x v s.main.f
    | shadow => exact ⟨rfl, rfl⟩
  | sp bank v => cases bank <;> exact ⟨rfl, rfl⟩
  | pc v => exact ⟨rfl, rfl⟩
  | byte a v => exact ⟨rfl, rfl⟩

/-- Settles O20: no affected set holds a reserved bit, and of the host's writes only that of all F reaches them. -/
theorem reservedFlagBitsKept : Obligations.ReservedFlagBitsKept := by
  refine ⟨fun i s hpop hex => ?_, hostWrite_reserved⟩
  obtain ⟨t, run, writes⟩ := exec_writes i s
  exact ⟨t, run, writes.reserved hpop hex⟩

/-- Settles O21: only the two exchanges write the shadow set. -/
theorem shadowSetReachedOnlyByExchange : Obligations.ShadowSetReachedOnlyByExchange := by
  intro i s
  obtain ⟨t, run, writes⟩ := exec_writes i s
  exact ⟨t, run, writes.shadow_af, fun hexx _ hr => writes.shadow_general hexx hr⟩

theorem step_of_halted {s : State} (h : s.mode = .halted) : step s = .next s := by
  simp only [step, h]

/-- Settles O23: `Writes` has one case that writes the mode, HALT's, and a step from Halted changes nothing. -/
theorem modeWrittenOnlyByHalt : Obligations.ModeWrittenOnlyByHalt := by
  refine ⟨fun i s hhalt => ?_, fun s t halted hstep => ?_⟩
  · obtain ⟨t, run, writes⟩ := exec_writes i s
    exact ⟨t, run, writes.mode hhalt⟩
  · obtain rfl := Host.Outcome.next.inj ((step_of_halted halted).symm.trans hstep)
    exact halted

/-- Settles O25: `pc` is written by jumps, SP by the stack instructions, both by calls and returns. -/
theorem stackPointerAndPcWriters : Obligations.StackPointerAndPcWriters := by
  intro i s
  obtain ⟨t, run, writes⟩ := exec_writes i s
  refine ⟨t, run, fun hcall hcallCond hret hretCond => ?_⟩
  have calls : ¬CallsOrReturns i
    | .call nn => hcall nn rfl
    | .callCond cc nn => hcallCond cc nn rfl
    | .ret => hret rfl
    | .retCond cc => hretCond cc rfl
  refine ⟨fun hjp hjpCond => writes.pc ?_ calls, fun hpush hpop hinc hdec => writes.sp ?_ calls⟩
  · rintro (nn | ⟨cc, nn⟩)
    · exact hjp nn rfl
    · exact hjpCond cc nn rfl
  · rintro (q | q | _ | _)
    · exact hpush q rfl
    · exact hpop q rfl
    · exact hinc rfl
    · exact hdec rfl

end Sys2Proof.Machine
end

section
/-! # SP' has no effect on execution (10_state.md R24, decision D27)

Every operation of a step commutes with a write of SP', so two runs from states that differ in SP' alone stay so. -/

namespace Sys2Proof.Machine

/-- The machine with another SP'. -/
def State.withShadowSP (v : Word) (s : State) : State := { s with shadow := { s.shadow with sp := v } }

/-- A fetch with its state changed. -/
def Fetched.mapState (k : State → State) : Fetched → Fetched
  | .instr i s => .instr i (k s)
  | .failed addr op s => .failed addr op (k s)

section Commutes

variable (v : Word) (s : State)

theorem holds_withShadowSP (cc : Cond) : holds cc (s.withShadowSP v) = holds cc s := by cases cc <;> rfl

theorem pathOf_withShadowSP (i : Instr) : pathOf i (s.withShadowSP v) = pathOf i s := by
  unfold pathOf
  cases conditionOf i with
  | none => rfl
  | some cc => simp only [holds_withShadowSP]

/-- JP cc, CALL cc and RET cc read the flags, and run their operation or nothing. -/
theorem conditional_withShadowSP (cc : Cond) {op : State → State}
    (h : op (s.withShadowSP v) = (op s).withShadowSP v) :
    (if holds cc (s.withShadowSP v) then op (s.withShadowSP v) else s.withShadowSP v) =
      (if holds cc s then op s else s).withShadowSP v := by
  rw [holds_withShadowSP, h, apply_ite (State.withShadowSP v)]

theorem writePair_withShadowSP (p : RegPair) (w : Word) :
    writePair p w (s.withShadowSP v) = (writePair p w s).withShadowSP v := by cases p <;> rfl

theorem writeStackPair_withShadowSP (q : StackPair) (w : Word) :
    writeStackPair q w (s.withShadowSP v) = (writeStackPair q w s).withShadowSP v := by cases q <;> rfl

theorem readPair_withShadowSP (p : RegPair) : readPair p (s.withShadowSP v) = readPair p s := by cases p <;> rfl

theorem operateOnRegisterPair_withShadowSP (op : PairOp) (p : RegPair) (w : Word) (affected : List Flag) :
    operateOnRegisterPair op p w affected (s.withShadowSP v) =
      (operateOnRegisterPair op p w affected s).withShadowSP v := by
  simp only [operateOnRegisterPair, readPair_withShadowSP, writePair_withShadowSP]
  rfl

theorem operateAlu_withShadowSP (op : AluOp) (b : Byte) :
    operateAlu op b (s.withShadowSP v) = (operateAlu op b s).withShadowSP v := by cases op <;> rfl

end Commutes

theorem meanings_withShadowSP (v : Word) :
    Meanings fun _ op => ∀ s : State, op (s.withShadowSP v) = (op s).withShadowSP v where
  nop _ := rfl
  halt _ := rfl
  jp _ _ := rfl
  jpCond cc nn s := conditional_withShadowSP v s cc (op := jump nn) rfl
  call _ _ := rfl
  callCond cc nn s := conditional_withShadowSP v s cc (op := callSub nn) rfl
  ret _ := rfl
  retCond cc s := conditional_withShadowSP v s cc (op := returnFromSub) rfl
  incReg _ _ := rfl
  decReg _ _ := rfl
  aluReg op _ s := operateAlu_withShadowSP v s op _
  aluImm op n s := operateAlu_withShadowSP v s op n
  incPair p s := operateOnRegisterPair_withShadowSP v s .inc p 1 []
  decPair p s := operateOnRegisterPair_withShadowSP v s .dec p 1 []
  addHL p s := by
    unfold addToHL
    rw [readPair_withShadowSP, operateOnRegisterPair_withShadowSP]
  rlca _ := rfl
  cpl _ := rfl
  scf _ := rfl
  ccf _ := rfl
  exAFAF _ := rfl
  exx _ := rfl
  exSPHL _ := rfl
  exDEHL _ := rfl
  ldReg _ _ _ := rfl
  ldRegAtHL _ _ := rfl
  ldAtHLReg _ _ := rfl
  ldRegImm _ _ _ := rfl
  ldAtHLImm _ _ := rfl
  ldAAbs _ _ := rfl
  ldAbsA _ _ := rfl
  ldHLAbs _ _ := rfl
  ldAbsHL _ _ := rfl
  push q _ := by cases q <;> rfl
  pop q s := writeStackPair_withShadowSP v (pop16 s).2 q (pop16 s).1

theorem exec_withShadowSP (v : Word) {i : Instr} {s t : State} (h : exec i s = .next t) :
    exec i (s.withShadowSP v) = .next (t.withShadowSP v) := by
  obtain ⟨op, run, commutes⟩ := exec_meaning (meanings_withShadowSP v) i
  obtain rfl := Host.Outcome.next.inj ((run s).symm.trans h)
  rw [run, commutes]

theorem fetchInstr_withShadowSP (v : Word) (s : State) :
    fetchInstr (s.withShadowSP v) = (fetchInstr s).mapState (State.withShadowSP v) := by
  have read : memRead (s.withShadowSP v).pc (s.withShadowSP v) = memRead s.pc s := rfl
  simp only [fetchInstr, fetchWord, fetchByte_eq, read]
  cases formatOf (memRead s.pc s) <;> rfl

theorem endStep_withShadowSP (v : Word) (i : Instr) (p : Path) (s : State) :
    endStep i p (s.withShadowSP v) = (endStep i p s).withShadowSP v := by
  simp only [endStep, overflowHalt, apply_ite (State.withShadowSP v)]
  rfl

theorem stepReturns_withShadowSP (v : Word) (s : State) : stepReturns (s.withShadowSP v) = stepReturns s := by
  have mode : (s.withShadowSP v).mode = s.mode := rfl
  unfold stepReturns
  rw [fetchInstr_withShadowSP, mode]
  cases s.mode with
  | halted => rfl
  | running => cases fetchInstr s <;> rfl

/-- The two runs of one step, side by side. -/
theorem step_withShadowSP (v : Word) {s t : State} (h : step s = .next t) :
    step (s.withShadowSP v) = .next (t.withShadowSP v) := by
  have mode : (s.withShadowSP v).mode = s.mode := rfl
  unfold step at h ⊢
  rw [fetchInstr_withShadowSP, mode]
  cases hm : s.mode with
  | halted =>
    simp only [hm] at h ⊢
    obtain rfl := Host.Outcome.next.inj h
    rfl
  | running =>
    cases hf : fetchInstr s with
    | failed addr op u =>
      simp only [hm, hf] at h
      obtain rfl := Host.Outcome.next.inj h
      rfl
    | instr i u =>
      obtain ⟨w, run, -⟩ := exec_effect i u
      simp only [hm, hf, run] at h
      obtain rfl := Host.Outcome.next.inj h
      simp only [Fetched.mapState, exec_withShadowSP v run, pathOf_withShadowSP, endStep_withShadowSP]

/-- A step keeps SP': no instruction's effect writes it. -/
theorem step_next_shadowSp (s : State) : ∃ t, step s = .next t ∧ t.shadow.sp = s.shadow.sp := by
  rcases step_cases s with ⟨_, h⟩ | ⟨pc, latch, _, _, h⟩ | ⟨i, pc, latch, u, _, _, _, effect, h⟩
  · exact ⟨_, h, rfl⟩
  · exact ⟨_, h, rfl⟩
  · exact ⟨_, h, by rw [endStep_shadow]; exact effect.shadowSp⟩

/-- Settles O22: a step commutes with a write of SP', returns the same, and keeps SP'. -/
theorem shadowStackPointerHasNoEffect : Obligations.ShadowStackPointerHasNoEffect := by
  intro s v
  obtain ⟨t, run, kept⟩ := step_next_shadowSp s
  exact ⟨t, run, kept, step_withShadowSP v run, stepReturns_withShadowSP v s⟩

end Sys2Proof.Machine
end

section
/-! # Memory (20_memory.md R50 to R54): what a byte and a word read as after a write, and that a canonical memory is
determined by its contents. -/

namespace Sys2Proof.Machine

/-! ## Reading after writing -/

@[simp] theorem memRead_memWrite_same (a : Word) (v : Byte) (s : State) : memRead a (memWrite a v s) = v := by
  rw [memRead_memWrite, if_pos rfl]

/-- A word write is two byte writes, the high byte at the next address modulo 2^16 (R54). -/
theorem memRead_memWriteWord (a x v : Word) (s : State) :
    memRead x (memWriteWord a v s) =
      if x = a + 1 then hiByte v else if x = a then loByte v else memRead x s := by
  rw [memWriteWord, memRead_memWrite, memRead_memWrite]

@[simp] theorem memRead_memWriteWord_high (a v : Word) (s : State) :
    memRead (a + 1) (memWriteWord a v s) = hiByte v := by
  rw [memRead_memWriteWord, if_pos rfl]

/-- The second byte does not land on the first, also where the word wraps at 0xFFFF. -/
@[simp] theorem memRead_memWriteWord_low (a v : Word) (s : State) : memRead a (memWriteWord a v s) = loByte v := by
  have distinct : a ≠ a + 1 := by bv_omega
  rw [memRead_memWriteWord, if_neg distinct, if_pos rfl]

/-- Settles O52: the byte law is that of the memory list, and a word is two bytes at distinct addresses. -/
theorem memoryReadAfterWrite : Obligations.MemoryReadAfterWrite := by
  intro a x v b s
  refine ⟨memRead_memWrite_same a b s, fun other => ?_, rfl, ?_, memRead_memWriteWord_low a v s,
    memRead_memWriteWord_high a v s, fun notLow notHigh => ?_⟩
  · rw [memRead_memWrite, if_neg other]
  · rw [memReadWord, memRead_memWriteWord_high, memRead_memWriteWord_low, joinBytes_hiByte_loByte]
  · rw [memRead_memWriteWord, if_neg notHigh, if_neg notLow]

/-! ## A canonical memory's entries are its written contents -/

/-- What reads as other than an unlisted address has an entry. -/
theorem Memory.mem_of_read_ne {m : Memory} {a : Nat} (written : m.read a ≠ Config.unwrittenByte) :
    (a, m.read a) ∈ m := by
  induction m with
  | nil => exact absurd rfl written
  | cons e m ih =>
    obtain ⟨k, v⟩ := e
    rw [Memory.read] at written ⊢
    split at written
    next hk => rw [if_pos hk, hk]; exact List.mem_cons_self
    next hk => rw [if_neg hk]; exact List.mem_cons_of_mem _ (ih written)

/-- With rising addresses no entry hides another. -/
theorem Memory.read_eq_of_mem {m : Memory} (rising : List.Pairwise (fun x y => x.1 < y.1) m) {e : Host.Cell}
    (h : e ∈ m) : m.read e.1 = e.2 := by
  induction m with
  | nil => exact absurd h List.not_mem_nil
  | cons c m ih =>
    obtain ⟨below, tail⟩ := List.pairwise_cons.mp rising
    obtain rfl | h := List.mem_cons.mp h
    · exact if_pos rfl
    · exact (if_neg (below e h).ne).trans (ih tail h)

theorem Memory.subset_of_read_eq {m m' : Memory} (wf : m.wf = true)
    (alike : ∀ a, a < Config.addressSpace → m.read a = m'.read a) : m ⊆ m' := by
  obtain ⟨rising, entries⟩ := (Memory.wf_iff m).mp wf
  intro e he
  obtain ⟨inSpace, written⟩ := entries e he
  have content : m'.read e.1 = e.2 := (alike e.1 inSpace).symm.trans (Memory.read_eq_of_mem rising he)
  have listed := Memory.mem_of_read_ne (content ▸ written)
  rwa [content] at listed

/-- Settles O53: the two lists have the same entries, and both are in rising order. -/
theorem canonicalMemoriesAreEqual : Obligations.CanonicalMemoriesAreEqual := by
  intro m m' wf wf' alike
  have : Std.Asymm fun x y : Host.Cell => x.1 < y.1 := ⟨fun _ _ => Nat.lt_asymm⟩
  exact List.Subset.antisymm_of_pairwise ((Memory.wf_iff m).mp wf).1 ((Memory.wf_iff m').mp wf').1
    (Memory.subset_of_read_eq wf alike) (Memory.subset_of_read_eq wf' fun a ha => (alike a ha).symm)

end Sys2Proof.Machine
end

section
/-! # Stores (20_memory.md R58, R63): the instructions that write memory, and the fetch of what they stored. -/

namespace Sys2Proof.Machine

/-- The instructions of R58 that store; CALL cc stores where it is taken. -/
inductive Stores : Instr → Prop
  | ldAtHLReg (r : Reg) : Stores (.ldAtHLReg r)
  | ldAtHLImm (n : Byte) : Stores (.ldAtHLImm n)
  | ldAbsA (nn : Word) : Stores (.ldAbsA nn)
  | ldAbsHL (nn : Word) : Stores (.ldAbsHL nn)
  | push (q : StackPair) : Stores (.push q)
  | call (nn : Word) : Stores (.call nn)
  | callCond (cc : Cond) (nn : Word) : Stores (.callCond cc nn)
  | exSPHL : Stores .exSPHL

section LeavesMemory

variable (s : State)

@[simp] theorem jumpIf_mem (cc : Cond) (nn : Word) : (jumpIf cc nn s).mem = s.mem := by
  unfold jumpIf; split <;> rfl

@[simp] theorem returnIf_mem (cc : Cond) : (returnIf cc s).mem = s.mem := by
  unfold returnIf; split <;> rfl

@[simp] theorem operateAlu_mem (op : AluOp) (b : Byte) : (operateAlu op b s).mem = s.mem := by cases op <;> rfl

@[simp] theorem popPair_mem (q : StackPair) : (popPair q s).mem = s.mem := writeStackPair_mem q _ _

end LeavesMemory

/-- Every family stores or leaves the memory list as it is. -/
theorem meanings_mem : Meanings fun i op => Stores i ∨ ∀ s, (op s).mem = s.mem where
  nop := .inr fun _ => rfl
  halt := .inr fun _ => rfl
  jp _ := .inr fun _ => rfl
  jpCond cc nn := .inr fun s => jumpIf_mem s cc nn
  call nn := .inl (.call nn)
  callCond cc nn := .inl (.callCond cc nn)
  ret := .inr fun _ => rfl
  retCond cc := .inr fun s => returnIf_mem s cc
  incReg _ := .inr fun s => operateOnRegister_mem _ _ _ _ s
  decReg _ := .inr fun s => operateOnRegister_mem _ _ _ _ s
  aluReg op _ := .inr fun s => operateAlu_mem s op _
  aluImm op n := .inr fun s => operateAlu_mem s op n
  incPair _ := .inr fun s => operateOnRegisterPair_mem _ _ _ _ s
  decPair _ := .inr fun s => operateOnRegisterPair_mem _ _ _ _ s
  addHL _ := .inr fun s => operateOnRegisterPair_mem _ _ _ _ s
  rlca := .inr fun _ => rfl
  cpl := .inr fun _ => rfl
  scf := .inr fun _ => rfl
  ccf := .inr fun _ => rfl
  exAFAF := .inr fun _ => rfl
  exx := .inr fun _ => rfl
  exSPHL := .inl .exSPHL
  exDEHL := .inr fun _ => rfl
  ldReg _ _ := .inr fun _ => rfl
  ldRegAtHL _ := .inr fun _ => rfl
  ldAtHLReg r := .inl (.ldAtHLReg r)
  ldRegImm _ _ := .inr fun _ => rfl
  ldAtHLImm n := .inl (.ldAtHLImm n)
  ldAAbs _ := .inr fun _ => rfl
  ldAbsA nn := .inl (.ldAbsA nn)
  ldHLAbs _ := .inr fun _ => rfl
  ldAbsHL nn := .inl (.ldAbsHL nn)
  push q := .inl (.push q)
  pop q := .inr fun s => popPair_mem s q

/-- An instruction that is none of the storing ones answers a next state with the same memory. -/
theorem exec_mem_of_not_stores {i : Instr} (h : ¬Stores i) (s : State) :
    ∃ t, exec i s = .next t ∧ t.mem = s.mem := by
  obtain ⟨op, run, stores | kept⟩ := exec_meaning meanings_mem i
  · exact absurd stores h
  · exact ⟨op s, run s, kept s⟩

/-- Settles O24: the premises exclude the storing instructions one by one. -/
theorem memoryWrittenOnlyByStores : Obligations.MemoryWrittenOnlyByStores := by
  intro i s ldAtHLReg ldAtHLImm ldAbsA ldAbsHL push call callCond exSPHL
  have notStoring : ¬Stores i
    | .ldAtHLReg r => ldAtHLReg r rfl
    | .ldAtHLImm n => ldAtHLImm n rfl
    | .ldAbsA nn => ldAbsA nn rfl
    | .ldAbsHL nn => ldAbsHL nn rfl
    | .push q => push q rfl
    | .call nn => call nn rfl
    | .callCond cc nn => callCond cc nn rfl
    | .exSPHL => exSPHL rfl
  obtain ⟨t, run, kept⟩ := exec_mem_of_not_stores notStoring s
  exact ⟨t, run, fun a => congrArg (Memory.read · a) kept⟩

/-! ## A later fetch reads what was stored -/

@[simp] theorem hiByte_readPair_hl (s : State) : hiByte (readPair .hl s) = readReg .h s := hiByte_joinBytes _ _

@[simp] theorem loByte_readPair_hl (s : State) : loByte (readPair .hl s) = readReg .l s := loByte_joinBytes _ _

theorem memWrite_fetchesAs (a : Word) (v : Byte) (s : State) : FetchesAs a v (memWrite a v s) :=
  .of_memRead (memRead_memWrite_same a v s)

/-- Both bytes of a word written, HL the word. -/
theorem memWriteWord_hl_fetchesAs (a : Word) (s : State) :
    FetchesAs a (readReg .l s) (memWriteWord a (readPair .hl s) s) ∧
      FetchesAs (a + 1) (readReg .h s) (memWriteWord a (readPair .hl s) s) :=
  ⟨.of_memRead (by rw [memRead_memWriteWord_low, loByte_readPair_hl]),
    .of_memRead (by rw [memRead_memWriteWord_high, hiByte_readPair_hl])⟩

/-- The two bytes of a push lie at distinct addresses (R320). -/
theorem push16_fetchesAs (v : Word) (s : State) :
    FetchesAs (s.main.sp - 1) (hiByte v) (push16 v s) ∧ FetchesAs (s.main.sp - 2) (loByte v) (push16 v s) := by
  have distinct : (s.main.sp - 1).toNat ≠ (s.main.sp - 2).toNat := by bv_omega
  refine ⟨.of_memRead ?_, .of_memRead ?_⟩
  · rw [memRead, push16_read, if_neg distinct, if_pos rfl]
  · rw [memRead, push16_read, if_pos rfl]

/-- CALL, and CALL cc where the condition holds, run one operation. -/
theorem exec_call_taken {i : Instr} {nn : Word} {s : State}
    (h : i = .call nn ∨ ∃ cc, i = .callCond cc nn ∧ holds cc s = true) : exec i s = .next (callSub nn s) := by
  obtain rfl | ⟨cc, rfl, taken⟩ := h
  · rfl
  · rw [exec_callCond, callIf, if_pos taken]

/-- Settles O54: every storing form is a byte write, a word write or a push, and a fetch reads memory only. -/
theorem storeIsSeenByNextFetch : Obligations.StoreIsSeenByNextFetch := by
  intro s
  refine ⟨fun r => ?_, fun n => ?_, fun nn => ?_, fun nn => ?_, fun q => ?_, fun i nn h => ?_, ?_, fun a v => ?_⟩
  · exact ⟨_, exec_ldAtHLReg s r, memWrite_fetchesAs _ _ s⟩
  · exact ⟨_, rfl, memWrite_fetchesAs _ n s⟩
  · exact ⟨_, rfl, memWrite_fetchesAs nn _ s⟩
  · exact ⟨_, rfl, memWriteWord_hl_fetchesAs nn s⟩
  · exact ⟨_, exec_push s q, push16_fetchesAs _ s⟩
  · exact ⟨_, exec_call_taken h, push16_fetchesAs s.pc s⟩
  · exact ⟨_, rfl, memWriteWord_hl_fetchesAs s.main.sp s⟩
  · exact memWrite_fetchesAs a v s

end Sys2Proof.Machine
end

section
/-! # The bit patterns of the opcode map (30_encoding.md R82, R83)

What the encoder writes for each family, as a bit pattern with the family's field codes. The decoder reads the same
patterns through bit fields, which are numbers there; the code of what it reads from a field is that field. -/

namespace Sys2Proof.Machine

/-! ## The pattern of each family -/

theorem encode_ldReg (dst src : Reg) : encode (.ldReg dst src) = [0b01#2 ++ dst.code ++ src.code] := by
  cases dst <;> cases src <;> rfl
theorem encode_aluReg (k : AluOp) (r : Reg) : encode (.aluReg k r) = [0b10#2 ++ k.code ++ r.code] := by
  cases k <;> cases r <;> rfl
theorem encode_aluImm (k : AluOp) (n : Byte) : encode (.aluImm k n) = [0b11#2 ++ k.code ++ 0b110#3, n] := by
  cases k <;> rfl
theorem encode_incReg (r : Reg) : encode (.incReg r) = [0b00#2 ++ r.code ++ 0b100#3] := by cases r <;> rfl
theorem encode_decReg (r : Reg) : encode (.decReg r) = [0b00#2 ++ r.code ++ 0b101#3] := by cases r <;> rfl
theorem encode_ldRegImm (r : Reg) (n : Byte) : encode (.ldRegImm r n) = [0b00#2 ++ r.code ++ 0b110#3, n] := by
  cases r <;> rfl
theorem encode_ldRegAtHL (r : Reg) : encode (.ldRegAtHL r) = [0b01#2 ++ r.code ++ 0b110#3] := by cases r <;> rfl
theorem encode_ldAtHLReg (r : Reg) : encode (.ldAtHLReg r) = [0b01110#5 ++ r.code] := by cases r <;> rfl
theorem encode_incPair (p : RegPair) : encode (.incPair p) = [0b00#2 ++ p.code ++ 0b0011#4] := by cases p <;> rfl
theorem encode_decPair (p : RegPair) : encode (.decPair p) = [0b00#2 ++ p.code ++ 0b1011#4] := by cases p <;> rfl
theorem encode_addHL (p : RegPair) : encode (.addHL p) = [0b00#2 ++ p.code ++ 0b1001#4] := by cases p <;> rfl
theorem encode_push (q : StackPair) : encode (.push q) = [0b11#2 ++ q.code ++ 0b0101#4] := by cases q <;> rfl
theorem encode_pop (q : StackPair) : encode (.pop q) = [0b11#2 ++ q.code ++ 0b0001#4] := by cases q <;> rfl
theorem encode_jpCond (cc : Cond) (nn : Word) :
    encode (.jpCond cc nn) = [0b11#2 ++ cc.code ++ 0b010#3, loByte nn, hiByte nn] := by
  cases cc <;> rfl
theorem encode_callCond (cc : Cond) (nn : Word) :
    encode (.callCond cc nn) = [0b11#2 ++ cc.code ++ 0b100#3, loByte nn, hiByte nn] := by
  cases cc <;> rfl
theorem encode_retCond (cc : Cond) : encode (.retCond cc) = [0b11#2 ++ cc.code ++ 0b000#3] := by cases cc <;> rfl

/-- Settles O3: one pattern for each family. -/
theorem opcodePatternsAndFieldCodes : Obligations.OpcodePatternsAndFieldCodes :=
  ⟨encode_ldReg, encode_aluReg, encode_aluImm, encode_incReg, encode_decReg, encode_ldRegImm, encode_ldRegAtHL,
    encode_ldAtHLReg, encode_incPair, encode_decPair, encode_addHL, encode_push, encode_pop, encode_jpCond,
    encode_callCond, encode_retCond⟩

/-! ## The code of what a field names -/

theorem code_of_regOfCode {y : Nat} {r : Reg} (h : regOfCode y = some r) : BitVec.ofNat 3 y = r.code := by
  unfold regOfCode at h
  split at h <;> cases h <;> rfl

theorem code_of_aluOfCode {y : Nat} {k : AluOp} (h : aluOfCode y = some k) : BitVec.ofNat 3 y = k.code := by
  unfold aluOfCode at h
  split at h <;> cases h <;> rfl

theorem code_condOfCode {y : Nat} (hy : y < 8) : BitVec.ofNat 3 y = (condOfCode y).code := by
  revert y; decide

theorem code_pairOfCode {y : Nat} (hy : y < 8) : BitVec.ofNat 2 (y / 2) = (pairOfCode (y / 2)).code := by
  revert y; decide

theorem code_stackPairOfCode {y : Nat} (hy : y < 8) :
    BitVec.ofNat 2 (y / 2) = (stackPairOfCode (y / 2)).code := by
  revert y; decide

/-- A pair's field is the upper two bits of the middle one; the lowest bit of that belongs to the pattern. -/
theorem split_middle_field (x : BitVec 2) {y : Nat} (hy : y < 8) (z : BitVec 3) :
    x ++ BitVec.ofNat 3 y ++ z = x ++ BitVec.ofNat 2 (y / 2) ++ (BitVec.ofNat 1 (y % 2) ++ z) := by
  revert x y z; decide

/-! ## Every opcode is the first byte of the encoding of what it selects -/

/-- Everything a format builds is encoded by the opcode and the operand bytes. -/
def EncodedBy (op : Byte) : Format → Prop
  | .f1 i => encode i = [op]
  | .f2 mk => ∀ n, encode (mk n) = [op, n]
  | .f3 mk => ∀ nn, encode (mk nn) = [op, loByte nn, hiByte nn]
  | .unimplemented => True

theorem withReg_encodedBy {op : Byte} {y : Nat} {k : Reg → Format}
    (h : ∀ r, BitVec.ofNat 3 y = r.code → EncodedBy op (k r)) : EncodedBy op (withReg y k) := by
  unfold withReg
  split
  · next r hr => exact h r (code_of_regOfCode hr)
  · trivial

theorem withAlu_encodedBy {op : Byte} {y : Nat} {k : AluOp → Format}
    (h : ∀ o, BitVec.ofNat 3 y = o.code → EncodedBy op (k o)) : EncodedBy op (withAlu y k) := by
  unfold withAlu
  split
  · next o ho => exact h o (code_of_aluOfCode ho)
  · trivial

section Formats

variable {y : Nat} (hy : y < 8) (z : Nat)

include hy in
theorem format00_encodedBy : EncodedBy (0b00#2 ++ BitVec.ofNat 3 y ++ BitVec.ofNat 3 z) (format00 y z) := by
  unfold format00
  split
  · rfl
  · rfl
  · split
    · next odd => rw [split_middle_field _ hy, code_pairOfCode hy, odd]; exact encode_addHL _
    · trivial
  · exact fun _ => rfl
  · exact fun _ => rfl
  · exact fun _ => rfl
  · exact fun _ => rfl
  · split
    · next even => rw [split_middle_field _ hy, code_pairOfCode hy, even]; exact encode_incPair _
    · next odd => rw [split_middle_field _ hy, code_pairOfCode hy, Nat.mod_two_ne_zero.mp odd]; exact encode_decPair _
  · exact withReg_encodedBy fun r hr => hr ▸ encode_incReg r
  · exact withReg_encodedBy fun r hr => hr ▸ encode_decReg r
  · exact fun _ => rfl
  · exact withReg_encodedBy fun r hr n => hr ▸ encode_ldRegImm r n
  · rfl
  · rfl
  · rfl
  · rfl
  · trivial

theorem format01_encodedBy : EncodedBy (0b01#2 ++ BitVec.ofNat 3 y ++ BitVec.ofNat 3 z) (format01 y z) := by
  unfold format01
  split
  · rfl
  · exact withReg_encodedBy fun r hr => hr ▸ encode_ldRegAtHL r
  · exact withReg_encodedBy fun r hr => hr ▸ encode_ldAtHLReg r
  · exact withReg_encodedBy fun dst hdst => withReg_encodedBy fun src hsrc => hdst ▸ hsrc ▸ encode_ldReg dst src

theorem format10_encodedBy : EncodedBy (0b10#2 ++ BitVec.ofNat 3 y ++ BitVec.ofNat 3 z) (format10 y z) :=
  withAlu_encodedBy fun k hk => withReg_encodedBy fun r hr => hk ▸ hr ▸ encode_aluReg k r

include hy in
theorem format11_encodedBy : EncodedBy (0b11#2 ++ BitVec.ofNat 3 y ++ BitVec.ofNat 3 z) (format11 y z) := by
  unfold format11
  split
  · exact code_condOfCode hy ▸ encode_retCond _
  · rfl
  · rfl
  · split
    · next even => rw [split_middle_field _ hy, code_stackPairOfCode hy, even]; exact encode_pop _
    · trivial
  · exact fun nn => code_condOfCode hy ▸ encode_jpCond _ nn
  · exact fun _ => rfl
  · rfl
  · rfl
  · exact fun nn => code_condOfCode hy ▸ encode_callCond _ nn
  · exact fun _ => rfl
  · split
    · next even => rw [split_middle_field _ hy, code_stackPairOfCode hy, even]; exact encode_push _
    · trivial
  · exact withAlu_encodedBy fun k hk n => hk ▸ encode_aluImm k n
  · trivial

end Formats

/-- A byte is its three fields put together. -/
theorem byte_eq_fields (op : Byte) :
    op = BitVec.ofNat 2 (op.extractLsb' 6 2).toNat ++ BitVec.ofNat 3 (op.extractLsb' 3 3).toNat ++
      BitVec.ofNat 3 (op.extractLsb' 0 3).toNat := by
  revert op; decide

theorem EncodedBy.of_fields {op : Byte} {x : Nat} (hx : (op.extractLsb' 6 2).toNat = x) {f : Format}
    (h : EncodedBy (BitVec.ofNat 2 x ++ BitVec.ofNat 3 (op.extractLsb' 3 3).toNat ++
      BitVec.ofNat 3 (op.extractLsb' 0 3).toNat) f) : EncodedBy op f := by
  rwa [← hx, ← byte_eq_fields] at h

theorem formatOf_encodedBy (op : Byte) : EncodedBy op (formatOf op) := by
  have hy := (op.extractLsb' 3 3).isLt
  have hx : (op.extractLsb' 6 2).toNat = 0 ∨ (op.extractLsb' 6 2).toNat = 1 ∨ (op.extractLsb' 6 2).toNat = 2 ∨
      (op.extractLsb' 6 2).toNat = 3 := by omega
  obtain x | x | x | x := hx <;> simp only [formatOf, x]
  · exact .of_fields x (format00_encodedBy hy _)
  · exact .of_fields x (format01_encodedBy _)
  · exact .of_fields x (format10_encodedBy _)
  · exact .of_fields x (format11_encodedBy hy _)

end Sys2Proof.Machine
end

section
/-! # Decoding and encoding are inverse (30_encoding.md R84, R87, R88), and the bytes that do not decode. -/

namespace Sys2Proof.Machine

/-- When bytes decode: an implemented opcode with the operand bytes its format takes. -/
theorem decode_eq_ok_iff {bytes : List Byte} {i : Instr} {rest : List Byte} :
    decode bytes = .ok (i, rest) ↔
      (∃ op, formatOf op = .f1 i ∧ bytes = op :: rest) ∨
      (∃ op n mk, formatOf op = .f2 mk ∧ mk n = i ∧ bytes = op :: n :: rest) ∨
      ∃ op nn mk, formatOf op = .f3 mk ∧ mk nn = i ∧ bytes = op :: loByte nn :: hiByte nn :: rest := by
  constructor
  · intro h
    unfold decode at h
    split at h
    · cases h
    · next op tail =>
      split at h
      · next hf => cases h; exact .inl ⟨op, hf, rfl⟩
      · next n _ hf => cases h; exact .inr (.inl ⟨op, n, _, hf, rfl, rfl⟩)
      · next lo hi _ hf =>
        cases h
        exact .inr (.inr ⟨op, joinBytes hi lo, _, hf, rfl, by rw [loByte_joinBytes, hiByte_joinBytes]⟩)
      · cases h
      · cases h
  · rintro (⟨op, hf, rfl⟩ | ⟨op, n, mk, hf, rfl, rfl⟩ | ⟨op, nn, mk, hf, rfl, rfl⟩)
    · simp only [decode, hf]
    · simp only [decode, hf]
    · simp only [decode, hf, joinBytes_hiByte_loByte]

/-- Settles O1: the first byte of every encoding selects the format that rebuilds the instruction. -/
theorem decodeEncodeRoundTrip : Obligations.DecodeEncodeRoundTrip := by
  intro i rest
  rw [decode_eq_ok_iff]
  obtain ⟨op, he, hf⟩ | ⟨op, n, mk, he, hf, hi⟩ | ⟨op, nn, mk, he, hf, hi⟩ := formatOf_encoding i <;> rw [he]
  · exact .inl ⟨op, hf, rfl⟩
  · exact .inr (.inl ⟨op, n, mk, hf, hi, rfl⟩)
  · exact .inr (.inr ⟨op, nn, mk, hf, hi, rfl⟩)

/-- Settles O2: whatever format the first byte selects, that byte is the opcode of all the format builds. -/
theorem decodedBytesAreTheEncoding : Obligations.DecodedBytesAreTheEncoding := by
  intro bytes i rest h
  obtain ⟨op, hf, rfl⟩ | ⟨op, n, mk, hf, rfl, rfl⟩ | ⟨op, nn, mk, hf, rfl, rfl⟩ := decode_eq_ok_iff.mp h <;>
    have enc := formatOf_encodedBy op <;> rw [hf] at enc
  · rw [show encode i = [op] from enc]; rfl
  · rw [enc n]; rfl
  · rw [enc nn]; rfl

/-- Settles O4: each word is the encoding of its instruction. -/
theorem sampleOpcodesDecode : Obligations.SampleOpcodesDecode :=
  have decodes := decodeEncodeRoundTrip
  ⟨decodes .halt [], decodes (.jpZ 0x1234) [], decodes .sbcAL [], decodes .addHLSP [], decodes (.xorImm 0x5A) [],
    decodes .exSPHL [], decodes .ldHAtHL [], decodes .popAF []⟩

/-- Settles O5: a check of the format of each of the 256 bytes. -/
theorem lengthFixedByOpcode : Obligations.LengthFixedByOpcode := by
  unfold Obligations.LengthFixedByOpcode
  decide

/-! ## The unimplemented bytes -/

theorem formatOf_eq_unimplemented {op : Byte} (h : isImplemented op = false) : formatOf op = .unimplemented := by
  unfold isImplemented at h
  cases hf : formatOf op with
  | unimplemented => rfl
  | _ => rw [hf] at h; cases h

theorem decode_unimplemented {op : Byte} (h : formatOf op = .unimplemented) (rest : List Byte) :
    decode (op :: rest) = .error (.unimplemented op) := by
  simp only [decode, h]

theorem stepReturns_unimplemented {s : State} (running : s.mode = .running)
    (h : formatOf (memRead s.pc s) = .unimplemented) :
    stepReturns s = .decodeFailure { addr := s.pc, byte := memRead s.pc s } := by
  simp only [stepReturns, running, fetchInstr, fetchByte, h]

/-- Settles O6: the 54 are found by a check of all 256 bytes; an unimplemented byte selects no format, and both the
decoder and the fetch follow the format. -/
theorem unimplementedBytesAreDecodeFailures : Obligations.UnimplementedBytesAreDecodeFailures := by
  refine fun op => ⟨by revert op; decide, fun h => ?_⟩
  have hf := formatOf_eq_unimplemented h
  refine ⟨decode_unimplemented hf, ?_⟩
  rintro s running rfl
  exact stepReturns_unimplemented running hf

end Sys2Proof.Machine
end

section
/-! # Fetching and one step (40_execution.md R110 to R114)

The fetch of an instruction reads the bytes that `decode` reads and leaves `pc` past them; a step is `exec` from there
and the end of the step. -/

namespace Sys2Proof.Machine

/-! ## The fetch -/

/-- Settles O7: the byte at `pc`, by the two cases of the advance; a word is two bytes, low byte first. -/
theorem fetchReadsAndAdvances : Obligations.FetchReadsAndAdvances := by
  refine fun s => ⟨rfl, fun top => ?_, fun below => ?_, ?_, rfl⟩
  · rw [fetchByte, if_pos top]; rfl
  · rw [fetchByte, if_neg below]; rfl
  · simp only [fetchWord, fetchByte_eq]; rfl

/-- The machine with `pc` past some bytes, and the latch set if they reach past 0xFFFF (R34, R111). -/
def State.pastBytes (n : Nat) (s : State) : State :=
  (s.setPc (s.pc + BitVec.ofNat 16 n)).setPcOverflowed (s.pcOverflowed || decide (65536 ≤ s.pc.toNat + n))

@[simp] theorem memRead_pastBytes (n : Nat) (a : Word) (s : State) : memRead a (s.pastBytes n) = memRead a s := rfl

@[simp] theorem pastBytes_pc (n : Nat) (s : State) : (s.pastBytes n).pc = s.pc + BitVec.ofNat 16 n := rfl

/-- Bytes fetched in two parts: the latch is set by the part that reaches past 0xFFFF. -/
theorem pastBytes_pastBytes (m n : Nat) (s : State) : (s.pastBytes m).pastBytes n = s.pastBytes (m + n) := by
  have pc : s.pc + BitVec.ofNat 16 m + BitVec.ofNat 16 n = s.pc + BitVec.ofNat 16 (m + n) := by
    rw [BitVec.ofNat_add, BitVec.add_assoc]
  have latch : (decide (65536 ≤ s.pc.toNat + m) || decide (65536 ≤ (s.pc + BitVec.ofNat 16 m).toNat + n)) =
      decide (65536 ≤ s.pc.toNat + (m + n)) := by
    rw [← Bool.decide_or, decide_eq_decide, BitVec.toNat_add, BitVec.toNat_ofNat]; omega
  calc
    (s.pastBytes m).pastBytes n =
        (s.setPc (s.pc + BitVec.ofNat 16 m + BitVec.ofNat 16 n)).setPcOverflowed (s.pcOverflowed ||
          (decide (65536 ≤ s.pc.toNat + m) || decide (65536 ≤ (s.pc + BitVec.ofNat 16 m).toNat + n))) := by
      rw [← Bool.or_assoc]; rfl
    _ = s.pastBytes (m + n) := by rw [pc, latch, State.pastBytes]

theorem fetchByte_eq_pastBytes (s : State) : fetchByte s = (memRead s.pc s, s.pastBytes 1) := by
  have top : s.pc = 0xFFFF ↔ 65536 ≤ s.pc.toNat + 1 := by bv_omega
  simp only [fetchByte_eq, top]
  rfl

theorem fetchWord_eq_pastBytes (s : State) :
    fetchWord s = (joinBytes (memRead (s.pc + 1) s) (memRead s.pc s), s.pastBytes 2) := by
  simp only [fetchWord, fetchByte_eq_pastBytes, memRead_pastBytes, pastBytes_pc, pastBytes_pastBytes]
  rfl

/-- The three bytes at `pc`, the longest an instruction has. -/
abbrev bytesAtPc (s : State) : List Byte := [memRead s.pc s, memRead (s.pc + 1) s, memRead (s.pc + 2) s]

/-- The fetch of an implemented opcode reads the instruction `decode` reads and leaves `pc` past its encoding. -/
theorem fetchInstr_decodes {s : State} (h : formatOf (memRead s.pc s) ≠ .unimplemented) :
    ∃ i rest, decode (bytesAtPc s) = .ok (i, rest) ∧ fetchInstr s = .instr i (s.pastBytes (encode i).length) := by
  have enc := formatOf_encodedBy (memRead s.pc s)
  cases hf : formatOf (memRead s.pc s) <;> rw [hf] at enc
  case f1 i =>
    refine ⟨i, _, decode_eq_ok_iff.mpr (.inl ⟨_, hf, rfl⟩), ?_⟩
    rw [show encode i = _ from enc]
    simp only [fetchInstr, fetchByte_eq_pastBytes, hf]
    rfl
  case f2 mk =>
    refine ⟨_, _, decode_eq_ok_iff.mpr (.inr (.inl ⟨_, _, mk, hf, rfl, rfl⟩)), ?_⟩
    rw [enc]
    simp only [fetchInstr, fetchByte_eq_pastBytes, hf, pastBytes_pastBytes]
    rfl
  case f3 mk =>
    have third : s.pc + 1 + 1 = s.pc + 2 := BitVec.add_assoc ..
    refine ⟨mk (joinBytes (memRead (s.pc + 2) s) (memRead (s.pc + 1) s)), [], by simp only [decode, hf], ?_⟩
    rw [enc, ← third]
    simp only [fetchInstr, fetchByte_eq_pastBytes, fetchWord_eq_pastBytes, hf, pastBytes_pastBytes]
    rfl
  case unimplemented => exact absurd hf h

theorem fetchInstr_of_decode {s : State} {i : Instr} {rest : List Byte} (h : decode (bytesAtPc s) = .ok (i, rest)) :
    fetchInstr s = .instr i (s.pastBytes (encode i).length) := by
  have implemented : formatOf (memRead s.pc s) ≠ .unimplemented := fun hf =>
    nomatch (decode_unimplemented hf _).symm.trans h
  obtain ⟨j, rest', hj, fetched⟩ := fetchInstr_decodes implemented
  cases hj.symm.trans h
  exact fetched

/-! ## One step -/

/-- Settles O8: both `step` and its return look at the mode first. -/
theorem stepWhileHaltedDoesNothing : Obligations.StepWhileHaltedDoesNothing :=
  fun s halted => ⟨step_of_halted halted, by rw [stepReturns, halted]⟩

/-- The step of a Running machine whose bytes decode: `exec`, whose effect is one of the shapes, and the step's end. -/
theorem step_of_decode {s : State} {i : Instr} {rest : List Byte} (running : s.mode = .running)
    (h : decode (bytesAtPc s) = .ok (i, rest)) :
    ∃ t, exec i (s.pastBytes (encode i).length) = .next t ∧ Effect (s.pastBytes (encode i).length) t ∧
      step s = .next (endStep i (pathOf i (s.pastBytes (encode i).length)) t) ∧ stepReturns s = .executed := by
  have fetched := fetchInstr_of_decode h
  obtain ⟨t, run, effect⟩ := exec_effect i (s.pastBytes (encode i).length)
  exact ⟨t, run, effect, by simp only [step, running, fetched, run], by simp only [stepReturns, running, fetched]⟩

/-- The end of a step, field by field (R114, R379). -/
theorem endStep_eq (i : Instr) (p : Path) (s : State) :
    endStep i p s = { s with
      cycleEvents := { instr := i, path := p } :: s.cycleEvents
      mode := if s.pcOverflowed then .halted else s.mode
      pcOverflowed := false } := by
  obtain ⟨main, shadow, pc, mode, fault, latch, mem, events⟩ := s
  cases latch <;> rfl

/-- Settles O9: the step of a decoded instruction, with the end of the step field by field. -/
theorem stepRunsTheDecodedInstruction : Obligations.StepRunsTheDecodedInstruction := by
  intro s i rest running h
  obtain ⟨t, run, -, hstep, executed⟩ := step_of_decode running h
  exact ⟨s.pastBytes (encode i).length, t, rfl, run, endStep_eq i _ t ▸ hstep, executed⟩

theorem pastBytes_of_overflow {n : Nat} {s : State} (h : 65536 ≤ s.pc.toNat + n) :
    s.pastBytes n = { s with pc := s.pc + BitVec.ofNat 16 n, pcOverflowed := true } := by
  rw [State.pastBytes, decide_eq_true h, Bool.or_true]; rfl

/-- Settles O11: no instruction writes the latch its fetch has set, so the end of the step halts. -/
theorem pcOverflowHaltsAfterTheInstruction : Obligations.PcOverflowHaltsAfterTheInstruction := by
  intro s i rest running h overflow
  obtain ⟨u, run, effect, hstep, -⟩ := step_of_decode running h
  rw [pastBytes_of_overflow overflow] at run effect
  have latch : u.pcOverflowed = true := effect.pcOverflowed
  exact ⟨u, _, run, hstep, by rw [endStep_mode, if_pos latch], endStep_pcOverflowed ..,
    (endStep_fault ..).trans effect.fault, endStep_pc .., endStep_main .., endStep_shadow .., endStep_mem ..⟩

end Sys2Proof.Machine
end

section
/-! # How a run ends (40_execution.md R117, R125): induction on the steps of the run loop. -/

namespace Sys2Proof.Machine

/-- What holds before every step of a run: Running, no fault recorded, the latch clear (R117). -/
structure InRun (s : State) : Prop where
  running : s.mode = .running
  noFault : s.fault = none
  latch : s.pcOverflowed = false

/-- Why an instruction halts the machine: it is HALT, or its bytes reach past 0xFFFF (R114, R151). -/
def HaltsBy (i : Instr) (s t : State) : Prop :=
  (i = .halt ∧ t.pc = s.pc + 1) ∨ 65536 ≤ s.pc.toNat + (encode i).length

/-- An instruction executed in a run keeps the fault record and the latch clear; the run goes on, or the instruction
halted it. -/
theorem InRun.step_of_decode {s : State} {i : Instr} {rest : List Byte} (h : InRun s)
    (hdecode : decode (bytesAtPc s) = .ok (i, rest)) :
    ∃ t, step s = .next t ∧ stepReturns s = .executed ∧ t.fault = none ∧
      (InRun t ∨ t.mode = .halted ∧ HaltsBy i s t) := by
  obtain ⟨u, run, effect, hstep, executed⟩ := Machine.step_of_decode h.running hdecode
  refine ⟨_, hstep, executed, (endStep_fault ..).trans (effect.fault.trans h.noFault), ?_⟩
  have latch : u.pcOverflowed = decide (65536 ≤ s.pc.toNat + (encode i).length) :=
    effect.pcOverflowed.trans (by rw [State.pastBytes, h.latch]; rfl)
  by_cases overflow : 65536 ≤ s.pc.toNat + (encode i).length
  · exact .inr ⟨by rw [endStep_mode, latch, if_pos (decide_eq_true overflow)], .inr overflow⟩
  rw [decide_eq_false overflow] at latch
  have mode (p : Path) : (endStep i p u).mode = u.mode := by rw [endStep_mode, latch]; rfl
  by_cases hhalt : i = .halt
  · subst hhalt
    obtain rfl : (s.pastBytes 1).setMode .halted = u := Host.Outcome.next.inj run
    exact .inr ⟨mode _, .inl ⟨rfl, endStep_pc ..⟩⟩
  · obtain ⟨v, run', kept⟩ := modeWrittenOnlyByHalt.1 i (s.pastBytes (encode i).length) hhalt
    obtain rfl := Host.Outcome.next.inj (run.symm.trans run')
    exact .inl ⟨(mode _).trans (kept.trans h.running),
      (endStep_fault ..).trans (effect.fault.trans h.noFault), endStep_pcOverflowed ..⟩

/-- A step from an unimplemented byte records it and halts (R341). -/
theorem step_unimplemented {s : State} (running : s.mode = .running)
    (h : formatOf (memRead s.pc s) = .unimplemented) :
    step s = .next (raiseDecodeFailure s.pc (memRead s.pc s) (s.pastBytes 1)) := by
  simp only [step, running, fetchInstr, fetchByte_eq_pastBytes, h]

/-- What a run that returned has ended in (R125). -/
inductive RunEnd : RunReturn → State → Prop
  | decodeFailure {d : DecodeFailure} {t : State} (halted : t.mode = .halted) (recorded : t.fault = some d)
      (unimplemented : isImplemented d.byte = false) : RunEnd (.decodeFailure d) t
  | halted {s t : State} {i : Instr} {rest : List Byte} (halted : t.mode = .halted) (noFault : t.fault = none)
      (running : s.mode = .running) (last : step s = .next t) (decoded : decode (bytesAtPc s) = .ok (i, rest))
      (reason : HaltsBy i s t) : RunEnd .halted t

theorem runLoop_ends {fuel : Nat} {s t : State} {r : RunReturn} (h : InRun s)
    (returned : runLoop fuel s = .returned r t) : RunEnd r t := by
  induction fuel generalizing s with
  | zero => cases returned
  | succ fuel ih =>
    by_cases hf : formatOf (memRead s.pc s) = .unimplemented
    · simp only [runLoop, step_unimplemented h.running hf, stepReturns_unimplemented h.running hf] at returned
      cases returned
      exact .decodeFailure rfl rfl (isImplemented_eq_false hf)
    · obtain ⟨i, rest, decoded, -⟩ := fetchInstr_decodes hf
      obtain ⟨u, hstep, executed, noFault, goesOn | ⟨halted, reason⟩⟩ := h.step_of_decode decoded
      · simp only [runLoop, hstep, executed, goesOn.running, reduceCtorEq, if_false] at returned
        exact ih goesOn returned
      · simp only [runLoop, hstep, executed, halted, if_true] at returned
        cases returned
        exact .halted halted noFault h.running hstep decoded reason

/-- Settles O17: `run_at` starts its loop as `InRun` says, whatever the machine. -/
theorem runEndsInThreeWays : Obligations.RunEndsInThreeWays := by
  rintro address s r t ⟨fuel, returned⟩
  have start : InRun (startRun address s) := ⟨rfl, rfl, rfl⟩
  cases runLoop_ends start returned with
  | decodeFailure halted recorded unimplemented =>
    refine ⟨halted, fun _ h => ?_, nofun⟩
    cases h
    exact ⟨recorded, unimplemented⟩
  | halted halted noFault running last decoded reason =>
    exact ⟨halted, nofun, fun _ => ⟨noFault, _, _, _, running, last, decoded, reason⟩⟩

end Sys2Proof.Machine
end

section
/-! # The host between steps (40_execution.md R117 to R123): what its writes reach, and the invariant. -/

namespace Sys2Proof.Machine

/-! ## What a direct write leaves alone -/

theorem BankFrame.engine {bank : Bank} {s t : State} (h : BankFrame bank s t) :
    t.mode = s.mode ∧ t.fault = s.fault ∧ t.pcOverflowed = s.pcOverflowed ∧ t.cycleEvents = s.cycleEvents :=
  ⟨h.mode, h.fault, h.latch, h.cycleEvents⟩

/-- The parts of a state that no direct write reaches (log entry 14; the cycle output by log entry 6). -/
theorem hostWrite_engine (w : HostWrite) (s : State) :
    (hostWrite w s).mode = s.mode ∧ (hostWrite w s).fault = s.fault ∧
      (hostWrite w s).pcOverflowed = s.pcOverflowed ∧ (hostWrite w s).cycleEvents = s.cycleEvents := by
  cases w with
  | reg bank r v => exact (hostWrite_reg_frame bank r v s).engine
  | f bank v => exact (hostWrite_f_frame bank v s).engine
  | flag bank x v => exact (hostWrite_flag_frame bank x v s).engine
  | sp bank v => exact (hostWrite_sp_frame bank v s).engine
  | pc v => exact ⟨rfl, rfl, rfl, rfl⟩
  | byte a v => exact ⟨rfl, rfl, rfl, rfl⟩

theorem memWrite_memSameBut (a : Word) (v : Byte) (s : State) : MemSameBut [a] s (memWrite a v s) := by
  intro x hx
  rw [memWrite_read, if_neg fun e => hx (List.mem_singleton.mpr e)]

/-- Settles O57: a write of one register set is `onBank`, with the frame of that set; `pc` and a byte have their own. -/
theorem hostWritesTheNamedElement : Obligations.HostWritesTheNamedElement := by
  refine fun s => ⟨fun bank r v => ?_, fun bank v => ?_, fun bank x b => ?_, fun bank w => ?_, fun _ => ⟨rfl, rfl⟩,
    fun a v => ?_, fun w => hostWrite_engine w s⟩
  · have written : readBank bank (hostWrite (.reg bank r v) s) = (readBank bank s).set r v :=
      readBank_onBank_same bank _ s
    refine ⟨_, rfl, ?_, fun q hq => ?_, ?_, ?_, hostWrite_reg_frame bank r v s⟩ <;> rw [written]
    · exact RegSet.get_set_same _ r v
    · exact RegSet.get_set_other _ v hq
    · exact RegSet.set_f _ r v
    · exact RegSet.set_sp _ r v
  · exact ⟨_, rfl, readBank_onBank_same bank _ s, hostWrite_f_frame bank v s⟩
  · obtain ⟨bit3, bit5⟩ := setFlag_reserved x b (readBank bank s).f
    exact ⟨_, setFlag x b (readBank bank s).f, rfl, readBank_onBank_same bank _ s, getFlag_setFlag_same x b _,
      fun _ hy => getFlag_setFlag_other b _ hy, bit3, bit5, hostWrite_flag_frame bank x b s⟩
  · exact ⟨_, rfl, readBank_onBank_same bank _ s, hostWrite_sp_frame bank w s⟩
  · exact ⟨_, rfl, memRead_memWrite_same a v s, memWrite_memSameBut a v s, rfl⟩

/-! ## The invariant -/

/-- The invariant of a state follows from that of one with the same mode, fault record and latch. -/
theorem Inv.of_same_engine {s t : State} (h : Inv s) (memory : t.mem.wf = true) (mode : t.mode = s.mode)
    (fault : t.fault = s.fault) (latch : t.pcOverflowed = s.pcOverflowed) : Inv t where
  memory := memory
  latch := latch.trans h.latch
  failure d hd := by rw [mode]; exact h.failure d (fault ▸ hd)

theorem startRun_inv {s : State} (h : Inv s) (address : Word) : Inv (startRun address s) where
  memory := h.memory
  latch := rfl
  failure _ hd := nomatch hd

/-- A program that ends within the address space is stored within it. -/
theorem storeBytes_wf {m : Memory} (h : m.wf = true) (program : List Byte) {a : Nat}
    (fits : a + program.length ≤ Config.addressSpace) : (storeBytes m a program).wf = true := by
  induction program generalizing m a with
  | nil => exact h
  | cons b program ih =>
    rw [List.length_cons] at fits
    exact ih (Memory.write_wf h (by omega) b) (by omega)

theorem loadAt_inv {s : State} (h : Inv s) (g : Image) : Inv (loadAt g s).2 := by
  unfold loadAt
  split
  · next fits => exact h.of_same_engine (storeBytes_wf h.memory _ (of_decide_eq_true fits)) rfl rfl rfl
  · exact h

@[simp] theorem onBank_mem (bank : Bank) (k : RegSet → RegSet) (s : State) : (onBank bank k s).mem = s.mem := by
  cases bank <;> rfl

/-- Of the direct writes only that of a byte reaches memory, at an address within the address space. -/
theorem hostWrite_wf {s : State} (h : s.mem.wf = true) (w : HostWrite) : (hostWrite w s).mem.wf = true := by
  cases w with
  | byte a v => exact memWrite_wf h a v
  | pc v => exact h
  | _ => rwa [hostWrite, onBank_mem]

theorem hostWrite_inv {s : State} (h : Inv s) (w : HostWrite) : Inv (hostWrite w s) := by
  obtain ⟨mode, fault, latch, -⟩ := hostWrite_engine w s
  exact h.of_same_engine (hostWrite_wf h.memory w) mode fault latch

/-- Settles O16: a run starts with no fault recorded; loads and direct writes keep the canonical memory and reach
none of the rest. -/
theorem hostOperationsKeepInvariant : Obligations.HostOperationsKeepInvariant :=
  fun _ h => ⟨startRun_inv h, loadAt_inv h, hostWrite_inv h⟩

end Sys2Proof.Machine
end

section
/-! # The adders, negation, parity and the conditions (41_alu.md R130 to R140). -/

namespace Sys2Proof.Machine

/-! ## The adders: their sum is that of bit vectors, their overflow that of the signed sum -/

theorem signs_overflow_iff {w : Nat} (a b r : BitVec w) :
    (a.msb == b.msb && r.msb != a.msb) = true ↔ a.msb = b.msb ∧ r.msb ≠ a.msb := by
  rw [Bool.and_eq_true, beq_iff_eq, bne_iff_ne]

/-- Two operands of one sign give a sum of the other exactly if the signed sum is out of range. -/
theorem signs_overflow_iff_range {w : Nat} (a b : BitVec w) :
    (a.msb == b.msb && (a + b).msb != a.msb) = true ↔
      a.toInt + b.toInt < -2 ^ (w - 1) ∨ 2 ^ (w - 1) ≤ a.toInt + b.toInt := by
  rw [bne, ← BitVec.saddOverflow_eq, BitVec.saddOverflow, Bool.or_eq_true, decide_eq_true_iff, decide_eq_true_iff,
    or_comm]

section Adders
variable (a b : Byte) (v w : Word)

@[simp] theorem addOctets_result : (addOctets a b).result = a + b := (BitVec.add_def a b).symm
@[simp] theorem addWords_result : (addWords v w).result = v + w := (BitVec.add_def v w).symm

theorem addOctets_carry_iff : (addOctets a b).carry = true ↔ a.toNat + b.toNat > 255 := decide_eq_true_iff

theorem addOctets_halfCarry_iff : (addOctets a b).halfCarry = true ↔ a.toNat % 16 + b.toNat % 16 > 15 :=
  decide_eq_true_iff

/-- The overflow of the byte adder is that of the signed sum (R131). -/
theorem addOctets_overflow_iff :
    (addOctets a b).overflow = true ↔ a.toInt + b.toInt < -128 ∨ 127 < a.toInt + b.toInt := by
  have range := signs_overflow_iff_range a b
  rwa [← addOctets_result] at range

/-- The overflow of the word adder is that of the signed sum (R132). -/
theorem addWords_overflow_iff :
    (addWords v w).overflow = true ↔ v.toInt + w.toInt < -32768 ∨ 32767 < v.toInt + w.toInt := by
  have range := signs_overflow_iff_range v w
  rwa [← addWords_result] at range

end Adders

/-- Settles O26: the overflow is read from the signs, and by the signed sum. -/
theorem addOctetsResultAndFlags : Obligations.AddOctetsResultAndFlags := fun a b =>
  ⟨rfl, addOctets_carry_iff a b, addOctets_halfCarry_iff a b, signs_overflow_iff a b _, addOctets_overflow_iff a b⟩

/-- Settles O27, as O26 at the width of a word. -/
theorem addWordsResultAndFlags : Obligations.AddWordsResultAndFlags := fun v w =>
  ⟨rfl, decide_eq_true_iff, decide_eq_true_iff, signs_overflow_iff v w _, addWords_overflow_iff v w⟩

/-! ## Negation, and the flags of a subtraction -/

theorem negate8_eq_neg (b : Byte) : negate8 b = -b := (BitVec.neg_eq_not_add b).symm

theorem negate8_toNat (b : Byte) : (negate8 b).toNat = (256 - b.toNat) % 256 := by
  rw [negate8_eq_neg, BitVec.toNat_neg]

/-- Only the most negative byte, 0x80, has no negation of the opposite signed value. -/
theorem negate8_toInt {t : Byte} (h : t ≠ 0x80) : (negate8 t).toInt = -t.toInt := by
  rw [negate8_eq_neg, BitVec.toInt_neg_of_ne_intMin h]

/-- Settles O28: the value modulo 256; the corner cases by evaluation. -/
theorem negationIsTwosComplement : Obligations.NegationIsTwosComplement :=
  ⟨negate8_toNat, rfl, rfl, rfl, rfl⟩

section Subtraction
variable (a t : Byte)

theorem addOctets_negate8_result : (addOctets a (negate8 t)).result = a - t := by
  rw [addOctets_result, negate8_eq_neg, BitVec.sub_eq_add_neg]

/-- The carry out of `a + (256 - t)`: for `t` other than 0, that no borrow occurs. -/
theorem addOctets_negate8_carry_iff :
    (addOctets a (negate8 t)).carry = true ↔ t ≠ 0 ∧ t.toNat ≤ a.toNat := by
  have nonzero : t ≠ 0 ↔ t.toNat ≠ 0 := BitVec.toNat_eq.not
  have := a.isLt
  have := t.isLt
  rw [addOctets_carry_iff, negate8_toNat, nonzero]
  omega

/-- The same on the low nibbles: that of `256 - t` is 16 minus that of `t`, modulo 16. -/
theorem addOctets_negate8_halfCarry_iff :
    (addOctets a (negate8 t)).halfCarry = true ↔ t.toNat % 16 ≠ 0 ∧ t.toNat % 16 ≤ a.toNat % 16 := by
  have := t.isLt
  rw [addOctets_halfCarry_iff, negate8_toNat]
  omega

theorem addOctets_negate8_overflow_iff {t : Byte} (h : t ≠ 0x80) :
    (addOctets a (negate8 t)).overflow = true ↔ a.toInt - t.toInt < -128 ∨ 127 < a.toInt - t.toInt := by
  rw [addOctets_overflow_iff, negate8_toInt h, Int.sub_eq_add_neg]

/-- The adder then adds -128 again, which leaves the signed range exactly if `a` is negative. -/
theorem addOctets_negate8_minimum_overflow : (addOctets a (negate8 0x80)).overflow = a.msb := by
  have negated : (negate8 0x80).toInt = -128 := rfl
  have above := a.toInt_lt
  have below := a.le_toInt
  rw [Bool.eq_iff_iff, addOctets_overflow_iff, negated, BitVec.msb_eq_toInt, decide_eq_true_iff]
  omega

end Subtraction

/-- Settles O29: 0x80 is set apart because it alone is not negated by `negate8`. -/
theorem subtractionFlagMeanings : Obligations.SubtractionFlagMeanings := fun a t =>
  ⟨addOctets_negate8_result a t, addOctets_negate8_carry_iff a t, addOctets_negate8_halfCarry_iff a t,
    addOctets_negate8_overflow_iff a, fun h => h ▸ addOctets_negate8_minimum_overflow a⟩

/-! ## Parity and the conditions -/

theorem succ_even_eq_not (n : Nat) : ((n + 1) % 2 == 0) = !(n % 2 == 0) := by
  rw [Bool.eq_iff_iff, Bool.not_eq_true', beq_iff_eq, beq_eq_false_iff_ne]
  omega

/-- Each element with the property flips the exclusive or, as it flips the parity of their number. -/
theorem filter_length_even {α : Type} (p : α → Bool) (l : List α) :
    ((l.filter p).length % 2 == 0) = !(l.foldr (fun x r => p x ^^ r) false) := by
  induction l with
  | nil => rfl
  | cons x l ih =>
    rw [List.filter_cons, List.foldr_cons]
    cases p x with
    | false => rwa [if_neg Bool.false_ne_true, Bool.false_xor]
    | true => rw [if_pos rfl, List.length_cons, succ_even_eq_not, ih, Bool.true_xor]

theorem parity_eq (v : Byte) : parity v = !(v[0] ^^ v[1] ^^ v[2] ^^ v[3] ^^ v[4] ^^ v[5] ^^ v[6] ^^ v[7]) :=
  (filter_length_even ..).trans (by simp [List.range_succ])

theorem not_flag_iff (x : Flag) (s : State) : (!flag x s) = true ↔ flag x s = false :=
  .of_eq (Bool.not_eq_true' _)

/-- Settles O30: the parity by `parity_eq`; each condition is its flag or that flag's complement. -/
theorem parityAndConditions : Obligations.ParityAndConditions :=
  ⟨parity_eq, fun s => ⟨not_flag_iff .z s, .rfl, not_flag_iff .c s, .rfl, not_flag_iff .pv s, .rfl,
    not_flag_iff .s s, .rfl⟩⟩

end Sys2Proof.Machine
end

section
/-! # Control (42_control.md R150 to R157): NOP, HALT, jumps, calls and returns. -/

namespace Sys2Proof.Machine

/-! ## NOP and HALT -/

/-- The step on a HALT byte: the mode, `pc` past the byte, and the end of the step (R151). -/
theorem step_halt {s : State} (running : s.mode = .running) (h : memRead s.pc s = 0x76) :
    step s = .next (endStep .halt (pathOf .halt (s.pastBytes 1)) ((s.pastBytes 1).setMode .halted)) := by
  have decoded : decode (bytesAtPc s) = .ok (.halt, [memRead (s.pc + 1) s, memRead (s.pc + 2) s]) := by
    rw [bytesAtPc, h]; rfl
  obtain ⟨t, run, -, hstep, -⟩ := step_of_decode running decoded
  obtain rfl : (s.pastBytes 1).setMode .halted = t := Host.Outcome.next.inj run
  exact hstep

/-- Settles O45: whether or not the end of the step halts too, the mode is Halted. -/
theorem nopAndHalt : Obligations.NopAndHalt := by
  refine fun s => ⟨rfl, rfl, rfl, rfl, fun running byte => ⟨_, step_halt running byte, ?_, endStep_pc ..,
    endStep_main .., endStep_shadow .., endStep_mem .., endStep_fault ..⟩⟩
  rw [endStep_mode, State.setMode_mode, ite_self]

/-! ## Taken and not taken: the operation of each form, by the condition -/

section Conditional

variable {cc : Cond} {s : State} (nn : Word)

theorem exec_jpCond_taken (h : holds cc s = true) : exec (.jpCond cc nn) s = .next (s.setPc nn) := by
  rw [exec_jpCond, jumpIf, if_pos h, jump]

theorem exec_jpCond_notTaken (h : holds cc s = false) : exec (.jpCond cc nn) s = .next s := by
  rw [exec_jpCond, jumpIf, if_neg (ne_true_of_eq_false h)]

theorem exec_callCond_notTaken (h : holds cc s = false) : exec (.callCond cc nn) s = .next s := by
  rw [exec_callCond, callIf, if_neg (ne_true_of_eq_false h)]

theorem exec_retCond_notTaken (h : holds cc s = false) : exec (.retCond cc) s = .next s := by
  rw [exec_retCond, returnIf, if_neg (ne_true_of_eq_false h)]

/-- RET, and RET cc where the condition holds, run one operation. -/
theorem exec_ret_taken {i : Instr} (h : i = .ret ∨ ∃ cc, i = .retCond cc ∧ holds cc s = true) :
    exec i s = .next (returnFromSub s) := by
  obtain rfl | ⟨cc, rfl, taken⟩ := h
  · rfl
  · rw [exec_retCond, returnIf, if_pos taken]

end Conditional

/-- Settles O46: the two outcomes of the condition. -/
theorem jumps : Obligations.Jumps := fun nn _ =>
  ⟨rfl, rfl, fun cc => ⟨encode_jpCond cc nn, exec_jpCond_taken nn, exec_jpCond_notTaken nn⟩⟩

/-- Settles O48: taken, the word `returnFromSub` pops is the one at SP. -/
theorem returns : Obligations.Returns := fun _ =>
  ⟨rfl, encode_retCond, fun _ taken => exec_ret_taken taken, fun _ => exec_retCond_notTaken⟩

/-! ## The push of a call -/

/-- Memory holds what a fetch reads: the converse of `FetchesAs.of_memRead`. -/
theorem FetchesAs.memRead {a : Word} {v : Byte} {t : State} (h : FetchesAs a v t) : memRead a t = v := h t rfl

section Push

variable (v : Word) (s : State)

@[simp] theorem memRead_push16_high : memRead (s.main.sp - 1) (push16 v s) = hiByte v :=
  (push16_fetchesAs v s).1.memRead

@[simp] theorem memRead_push16_low : memRead (s.main.sp - 2) (push16 v s) = loByte v :=
  (push16_fetchesAs v s).2.memRead

theorem push16_storeFrame : StoreFrame [s.main.sp - 1, s.main.sp - 2] s (push16 v s) where
  memory x hx := by
    simp only [List.map_cons, List.map_nil, List.mem_cons, List.not_mem_nil, or_false, not_or] at hx
    obtain ⟨notHigh, notLow⟩ := hx
    rw [push16_read, if_neg notLow, if_neg notHigh]
  mode := rfl
  system := ⟨rfl, rfl, rfl, rfl⟩

/-- A call is the push of the old `pc`, and writes `pc` beside it, which no frame of a store speaks of. -/
theorem callSub_storeFrame (nn : Word) : StoreFrame [s.main.sp - 1, s.main.sp - 2] s (callSub nn s) :=
  have push := push16_storeFrame s.pc s
  ⟨push.memory, push.mode, push.system⟩

end Push

/-- Settles O47: taken, the next state is `callSub`, the push of the old `pc` and the jump. -/
theorem calls : Obligations.Calls := fun nn s =>
  ⟨rfl, fun cc => encode_callCond cc nn,
    fun _ taken => ⟨callSub nn s, exec_call_taken taken, rfl, rfl, memRead_push16_high s.pc s,
      memRead_push16_low s.pc s, callSub_storeFrame s nn⟩,
    fun _ => exec_callCond_notTaken nn⟩

end Sys2Proof.Machine
end

section
/-! # 8-bit arithmetic (43_arith8.md R180 to R189)

Every instruction of the family is one addition to a register (41_alu.md R134, R135): `Adds` says what is added and
which flags are written. The three statements are about `Adds` alone; a subtraction adds a negated byte. -/

namespace Sys2Proof.Machine

/-! ## Registers and flags written together -/

theorem updateFlags_writeReg_frame (affected : List Flag) (values : List (Flag × Bool)) (r : Reg) (v : Byte)
    (s : State) : RegisterFrame [r] affected s (updateFlags affected values (writeReg r v s)) where
  regs _ hq := (readReg_updateFlags ..).trans (readReg_writeReg_other v s (List.ne_of_not_mem_cons hq))
  flags := by
    rw [FlagsSameBut, updateFlags_f, writeReg_f]
    refine ⟨fun x hx => ?_, applyFlags_reserved affected values s.main.f⟩
    rw [flag, updateFlags_f, writeReg_f, getFlag_applyFlags_unaffected values _ hx, flag]
  sp := writeReg_sp r v s
  outside := ⟨rfl, rfl, fun _ => rfl, rfl, rfl, rfl, rfl⟩

theorem flag_updateFlags_last {affected : List Flag} (pre : List (Flag × Bool)) {post : List (Flag × Bool)}
    (s : State) {x : Flag} (v : Bool) (last : x ∉ post.map Prod.fst) (h : x ∈ affected) :
    flag x (updateFlags affected (pre ++ (x, v) :: post) s) = v :=
  getFlag_applyFlags_last pre s.main.f v last h

theorem eq_decide_of_iff {p : Prop} [Decidable p] {v : Bool} (h : v = true ↔ p) : v = decide p :=
  Bool.eq_iff_iff.mpr (h.trans decide_eq_true_iff.symm)

/-! ## The addition -/

/-- The value that a flag takes from an adder's answer (R135). -/
def sumFlag (sum : Sum 8) (subtracts : Bool) : Flag → Bool
  | .c => sum.carry
  | .n => subtracts
  | .pv => sum.overflow
  | .h => sum.halfCarry
  | .z => decide (sum.result = 0)
  | .s => sum.result.msb

/-- The overflow of the adder by the signs, the second operand's read from its value (R131). -/
theorem addOctets_overflow_eq (a b : Byte) :
    (addOctets a b).overflow = (a.msb == decide (128 ≤ b.toNat) && (addOctets a b).result.msb != a.msb) := by
  have sign : b.msb = decide (128 ≤ b.toNat) := BitVec.msb_eq_decide b
  rw [← sign, addOctets]

theorem flag_operateOnRegister (op : ArithOp) (r : Reg) (b : Byte) {affected : List Flag} (s : State) {x : Flag}
    (h : x ∈ affected) :
    flag x (operateOnRegister op r b affected s) =
      sumFlag (addOctets (readReg r s) (secondOperand op b (flag .c s))) (isSubtraction op) x := by
  cases x with
  | c => exact flag_updateFlags_last [] _ _ (by simp) h
  | n => exact flag_updateFlags_last [_] _ _ (by simp) h
  | pv => exact flag_updateFlags_last [_, _] _ _ (by simp) h
  | h => exact flag_updateFlags_last [_, _, _] _ _ (by simp) h
  | z => exact flag_updateFlags_last [_, _, _, _] _ _ (by simp) h
  | s => exact flag_updateFlags_last [_, _, _, _, _] _ _ (by simp) h

/-- A state is another with a byte added to a register: the affected flags are the adder's, the rest is kept. -/
structure Adds (r : Reg) (second : Byte) (subtracts : Bool) (affected : List Flag) (s t : State) : Prop where
  result : readReg r t = readReg r s + second
  flags : ∀ x ∈ affected, flag x t = sumFlag (addOctets (readReg r s) second) subtracts x
  frame : RegisterFrame [r] affected s t

theorem operateOnRegister_adds (op : ArithOp) (r : Reg) (b : Byte) (affected : List Flag) (s : State) :
    Adds r (secondOperand op b (flag .c s)) (isSubtraction op) affected s (operateOnRegister op r b affected s) where
  result := by
    rw [operateOnRegister, readReg_updateFlags, readReg_writeReg_same, addOctets_result]
  flags _ h := flag_operateOnRegister op r b s h
  frame := updateFlags_writeReg_frame affected _ r _ s

section Adds

variable {r : Reg} {second : Byte} {subtracts : Bool} {affected : List Flag} {s t : State}
  (h : Adds r second subtracts affected s t)

include h

theorem Adds.sum_result : (addOctets (readReg r s) second).result = readReg r t := by
  rw [addOctets_result, h.result]

theorem Adds.flag_z (hz : .z ∈ affected) : flag .z t = decide (readReg r t = 0) := by
  rw [h.flags _ hz, sumFlag, h.sum_result]

theorem Adds.flag_s (hs : .s ∈ affected) : flag .s t = (readReg r t).msb := by
  rw [h.flags _ hs, sumFlag, h.sum_result]

end Adds

/-! ## The accumulator -/

theorem mem_arith8Flags (x : Flag) : x ∈ arith8Flags := by cases x <;> decide

theorem withCarry_toNat (b : Byte) (c : Bool) :
    (withCarry b c).toNat = (b.toNat + if c then 1 else 0) % 256 := by
  cases c <;> exact BitVec.toNat_add ..

theorem withCarry_false (b : Byte) : withCarry b false = b := add_zero b

section Accumulator

variable {s : State} {b : Byte} {k : AluOp} {withC : Bool} {i : Instr}

/-- The register and the immediate form run one operation on the operand's value. -/
theorem exec_alu (form : (∃ r, readReg r s = b ∧ i = .aluReg k r) ∨ i = .aluImm k b) :
    exec i s = .next (operateAlu k b s) := by
  obtain ⟨r, rfl, rfl⟩ | rfl := form
  · exact exec_aluReg s k r
  · exact exec_aluImm s k b

theorem operateAlu_adds (row : k = .add ∧ withC = false ∨ k = .adc ∧ withC = true) :
    Adds .a (withCarry b (withC && flag .c s)) false arith8Flags s (operateAlu k b s) := by
  obtain ⟨rfl, rfl⟩ | ⟨rfl, rfl⟩ := row
  · rw [Bool.false_and, withCarry_false]
    exact operateOnRegister_adds .add .a b arith8Flags s
  · exact operateOnRegister_adds .adc .a b arith8Flags s

theorem operateAlu_subtracts (row : k = .sub ∧ withC = false ∨ k = .sbc ∧ withC = true) :
    Adds .a (negate8 (withCarry b (withC && flag .c s))) true arith8Flags s (operateAlu k b s) := by
  obtain ⟨rfl, rfl⟩ | ⟨rfl, rfl⟩ := row
  · rw [Bool.false_and, withCarry_false]
    exact operateOnRegister_adds .sub .a b arith8Flags s
  · exact operateOnRegister_adds .sbc .a b arith8Flags s

end Accumulator

/-- Settles O31: ADD and ADC add the operand with the carry folded in; PV is read from the signs. -/
theorem addAndAdcOnAccumulator : Obligations.AddAndAdcOnAccumulator := by
  refine fun s b k withC row => ⟨encode_aluReg k, encode_aluImm k b, fun i form => ?_⟩
  have adds := operateAlu_adds (s := s) (b := b) row
  have written := fun x => adds.flags x (mem_arith8Flags x)
  refine ⟨_, _, exec_alu form, withCarry_toNat b _, ?_, written .c, written .h, ?_, written .n,
    adds.flag_z (mem_arith8Flags .z), adds.flag_s (mem_arith8Flags .s), adds.frame⟩
  · rw [adds.result, BitVec.toNat_add]
  · rw [written .pv, sumFlag, addOctets_overflow_eq, adds.sum_result]

/-- Settles O32: SUB and SBC add the negated subtrahend, so the flags are those of O29. -/
theorem subAndSbcOnAccumulator : Obligations.SubAndSbcOnAccumulator := by
  refine fun s b k withC row => ⟨encode_aluReg k, encode_aluImm k b, fun i form => ?_⟩
  have adds := operateAlu_subtracts (s := s) (b := b) row
  have written := fun x => adds.flags x (mem_arith8Flags x)
  obtain ⟨difference, carry, halfCarry, overflow, minimum⟩ :=
    subtractionFlagMeanings (readReg .a s) (withCarry b (withC && flag .c s))
  exact ⟨_, _, exec_alu form, rfl, adds.sum_result.symm.trans difference,
    (written .c).trans (eq_decide_of_iff carry), (written .h).trans (eq_decide_of_iff halfCarry),
    fun ht => (written .pv).trans (eq_decide_of_iff (overflow ht)), fun ht => (written .pv).trans (minimum ht),
    written .n, adds.flag_z (mem_arith8Flags .z), adds.flag_s (mem_arith8Flags .s), adds.frame⟩

/-! ## INC r and DEC r -/

section ByOne
variable (a : Byte)

theorem addOctets_one_overflow_iff : (addOctets a 1).overflow = true ↔ a = 0x7F := by
  have one : (1 : Byte).toInt = 1 := rfl
  have largest : (0x7F : Byte).toInt = 127 := rfl
  have above := a.toInt_lt
  have below := a.le_toInt
  rw [addOctets_overflow_iff, one, ← BitVec.toInt_inj, largest]
  omega

theorem addOctets_negate8_one_overflow_iff : (addOctets a (negate8 1)).overflow = true ↔ a = 0x80 := by
  have one : (1 : Byte).toInt = 1 := rfl
  have smallest : (0x80 : Byte).toInt = -128 := rfl
  have above := a.toInt_lt
  have below := a.le_toInt
  rw [addOctets_negate8_overflow_iff a (by decide), one, ← BitVec.toInt_inj, smallest]
  omega

theorem addOctets_one_halfCarry_iff : (addOctets a 1).halfCarry = true ↔ a.toNat % 16 = 15 := by
  have one : (1 : Byte).toNat = 1 := rfl
  rw [addOctets_halfCarry_iff, one]
  omega

theorem addOctets_negate8_one_halfCarry_iff : (addOctets a (negate8 1)).halfCarry = true ↔ a.toNat % 16 ≠ 0 := by
  have one : (1 : Byte).toNat = 1 := rfl
  rw [addOctets_negate8_halfCarry_iff, one]
  omega

end ByOne

/-- Settles O33: INC r adds 1 and DEC r adds its negation, under the affected set without C. -/
theorem incAndDecRegister : Obligations.IncAndDecRegister := by
  intro r s
  have inc : Adds r 1 false incDecFlags s (incRegister r s) := operateOnRegister_adds .inc r 1 incDecFlags s
  have dec : Adds r (negate8 1) true incDecFlags s (decRegister r s) :=
    operateOnRegister_adds .dec r 1 incDecFlags s
  have difference := dec.sum_result.symm.trans (addOctets_negate8_result (readReg r s) 1)
  refine ⟨encode_incReg r, ⟨_, exec_incReg s r, inc.result, ?_, ?_, inc.flags .n (by decide), ?_,
      inc.flag_s (by decide), inc.frame⟩,
    encode_decReg r, _, exec_decReg s r, difference, ?_, ?_, dec.flags .n (by decide), ?_,
      dec.flag_s (by decide), dec.frame⟩
  · exact (inc.flags .h (by decide)).trans (eq_decide_of_iff (addOctets_one_halfCarry_iff _))
  · exact (inc.flags .pv (by decide)).trans (eq_decide_of_iff (addOctets_one_overflow_iff _))
  · rw [inc.flag_z (by decide), inc.result]
    exact decide_eq_decide.mpr eq_neg_iff_add_eq_zero.symm
  · exact (dec.flags .h (by decide)).trans (eq_decide_of_iff (addOctets_negate8_one_halfCarry_iff _))
  · exact (dec.flags .pv (by decide)).trans (eq_decide_of_iff (addOctets_negate8_one_overflow_iff _))
  · rw [dec.flag_z (by decide), difference]
    exact decide_eq_decide.mpr sub_eq_zero

end Sys2Proof.Machine
end

section
/-! # 16-bit arithmetic (44_arith16.md R210 to R212)

Every instruction of the family is one `operateOnRegisterPair` (41_alu.md R137): its lemmas say what it adds to the
pair, which flags it writes and what it keeps. The two statements are read off them. -/

namespace Sys2Proof.Machine

/-! ## Pairs and the main set -/

theorem readPair_writePair_other {p q : RegPair} (v : Word) (s : State) (h : q ≠ p) :
    readPair q (writePair p v s) = readPair q s := by
  cases p <;> cases q <;> first | exact absurd rfl h | rfl

@[simp] theorem readPair_updateFlags (p : RegPair) (affected : List Flag) (values : List (Flag × Bool)) (s : State) :
    readPair p (updateFlags affected values s) = readPair p s := by cases p <;> rfl

@[simp] theorem writePair_a (p : RegPair) (v : Word) (s : State) : (writePair p v s).main.a = s.main.a := by
  cases p <;> rfl

@[simp] theorem writePair_f (p : RegPair) (v : Word) (s : State) : (writePair p v s).main.f = s.main.f := by
  cases p <;> rfl

theorem writePair_hl (v : Word) (s : State) :
    writePair .hl v s = writeReg .l (loByte v) (writeReg .h (hiByte v) s) := rfl

theorem setMain_outsideMainSame (m : RegSet) (s : State) : OutsideMainSame s (s.setMain m) :=
  ⟨rfl, rfl, fun _ => rfl, rfl, rfl, rfl, rfl⟩

/-- A register written before counts among those the frame leaves out. -/
theorem RegisterFrame.of_writeReg {r : Reg} {v : Byte} {regs : List Reg} {flags : List Flag} {s t : State}
    (h : RegisterFrame regs flags (writeReg r v s) t) : RegisterFrame (r :: regs) flags s t where
  regs q hq := by
    obtain ⟨other, unlisted⟩ := List.ne_and_not_mem_of_not_mem_cons hq
    rw [h.regs q unlisted, readReg_writeReg_other v s other]
  flags := by simpa only [FlagsSameBut, flag, writeReg_f] using h.flags
  sp := h.sp.trans (writeReg_sp r v s)
  outside := ⟨h.outside.pc, h.outside.mode, h.outside.memory, h.outside.system⟩

/-! ## The addition to a pair -/

/-- The word that is added to the target pair (R137). -/
def secondWord (op : PairOp) (w : Word) : Word :=
  match op with
  | .inc => 1
  | .dec => negate16 1
  | .add => w

section Pair

variable (op : PairOp) (p : RegPair) (w : Word) (affected : List Flag) (s : State)

theorem operateOnRegisterPair_eq_addWords :
    operateOnRegisterPair op p w affected s =
      updateFlags affected
        [(.c, (addWords (readPair p s) (secondWord op w)).carry), (.n, false),
          (.h, (addWords (readPair p s) (secondWord op w)).halfCarry)]
        (writePair p (readPair p s + secondWord op w) s) := by
  rw [← addWords_result]
  rfl

theorem readPair_operateOnRegisterPair_toNat :
    (readPair p (operateOnRegisterPair op p w affected s)).toNat =
      ((readPair p s).toNat + (secondWord op w).toNat) % 65536 := by
  rw [operateOnRegisterPair_eq_addWords, readPair_updateFlags, readPair_writePair_same, BitVec.toNat_add]

theorem readPair_operateOnRegisterPair_other {q : RegPair} (h : q ≠ p) :
    readPair q (operateOnRegisterPair op p w affected s) = readPair q s :=
  (readPair_updateFlags ..).trans (readPair_writePair_other _ s h)

theorem operateOnRegisterPair_a : (operateOnRegisterPair op p w affected s).main.a = s.main.a :=
  writePair_a p _ s

theorem operateOnRegisterPair_f_of_no_flags : (operateOnRegisterPair op p w [] s).main.f = s.main.f :=
  (applyFlags_nil_affected _ _).trans (writePair_f p _ s)

theorem operateOnRegisterPair_outsideMainSame : OutsideMainSame s (operateOnRegisterPair op p w affected s) := by
  obtain ⟨m, e⟩ := operateOnRegisterPair_eq op p w affected s
  rw [e]
  exact setMain_outsideMainSame m s

end Pair

/-- Settles O34: INC rr adds 1 and DEC rr adds 65535, under the empty affected set. -/
theorem incAndDecPair : Obligations.IncAndDecPair := fun p s =>
  ⟨encode_incPair p,
    ⟨_, exec_incPair s p, readPair_operateOnRegisterPair_toNat .inc p 1 [] s,
      fun _ => readPair_operateOnRegisterPair_other .inc p 1 [] s, operateOnRegisterPair_a .inc p 1 [] s,
      operateOnRegisterPair_f_of_no_flags .inc p 1 s, operateOnRegisterPair_outsideMainSame .inc p 1 [] s⟩,
    encode_decPair p,
    _, exec_decPair s p, readPair_operateOnRegisterPair_toNat .dec p 1 [] s,
    fun _ => readPair_operateOnRegisterPair_other .dec p 1 [] s, operateOnRegisterPair_a .dec p 1 [] s,
    operateOnRegisterPair_f_of_no_flags .dec p 1 s, operateOnRegisterPair_outsideMainSame .dec p 1 [] s⟩

/-! ## ADD HL,rr -/

section AddToHL

variable (p : RegPair) (s : State)

theorem flag_c_addToHL : flag .c (addToHL p s) = (addWords (readPair .hl s) (readPair p s)).carry :=
  flag_updateFlags_last [] _ _ (by simp) (by decide)

theorem flag_n_addToHL : flag .n (addToHL p s) = false :=
  flag_updateFlags_last [_] _ _ (by simp) (by decide)

theorem flag_h_addToHL : flag .h (addToHL p s) = (addWords (readPair .hl s) (readPair p s)).halfCarry :=
  flag_updateFlags_last [_, _] _ _ (by simp) (by decide)

/-- HL is written as H and then L, so its frame is that of L with H added. -/
theorem addToHL_frame : RegisterFrame [.h, .l] carryFlags s (addToHL p s) := by
  rw [addToHL, operateOnRegisterPair_eq_addWords, writePair_hl]
  exact (updateFlags_writeReg_frame ..).of_writeReg

end AddToHL

/-- Settles O35: HL plus the pair by the word adder, whose C and H are those the statement names. -/
theorem addPairToHL : Obligations.AddPairToHL := fun p s =>
  ⟨encode_addHL p, _, exec_addHL s p, readPair_operateOnRegisterPair_toNat .add .hl (readPair p s) carryFlags s,
    flag_c_addToHL p s, flag_h_addToHL p s, flag_n_addToHL p s, addToHL_frame p s⟩

end Sys2Proof.Machine
end

section
/-! # Bitwise (45_bitwise.md R230 to R240)

AND, OR and XOR are one `operateLogic`: its lemmas give A, the six flags and the frame. RLCA, SCF, CCF and CPL are a
selective flag update, after a write of A or alone. -/

namespace Sys2Proof.Machine

/-! ## A register's write and the flag update -/

theorem readReg_updateFlags_writeReg (affected : List Flag) (values : List (Flag × Bool)) (r : Reg) (v : Byte)
    (s : State) : readReg r (updateFlags affected values (writeReg r v s)) = v :=
  (readReg_updateFlags ..).trans (readReg_writeReg_same r v s)

theorem updateFlags_frame (affected : List Flag) (values : List (Flag × Bool)) (s : State) :
    RegisterFrame [] affected s (updateFlags affected values s) where
  regs r _ := readReg_updateFlags r affected values s
  flags := ⟨fun _ hx => getFlag_applyFlags_unaffected values s.main.f hx,
    applyFlags_reserved affected values s.main.f⟩
  sp := updateFlags_sp affected values s
  outside := setMain_outsideMainSame _ s

/-! ## The logical operations -/

/-- The value that a flag takes from a logical operation with the given result (R230, decisions D6 and D10). -/
def logicFlag (op : LogicOp) (res : Byte) : Flag → Bool
  | .c => false
  | .n => false
  | .pv => parity res
  | .h => logicHalfCarry op
  | .z => decide (res = 0)
  | .s => res.msb

section Logic

variable (op : LogicOp) (b : Byte) (s : State)

theorem readReg_a_operateLogic : readReg .a (operateLogic op b s) = logicResult op (readReg .a s) b :=
  readReg_updateFlags_writeReg ..

theorem flag_operateLogic (x : Flag) :
    flag x (operateLogic op b s) = logicFlag op (logicResult op (readReg .a s) b) x := by
  cases x with
  | c => exact flag_updateFlags_last [] _ _ (by simp) (by decide)
  | n => exact flag_updateFlags_last [_] _ _ (by simp) (by decide)
  | pv => exact flag_updateFlags_last [_, _] _ _ (by simp) (by decide)
  | h => exact flag_updateFlags_last [_, _, _] _ _ (by simp) (by decide)
  | z => exact flag_updateFlags_last [_, _, _, _] _ _ (by simp) (by decide)
  | s => exact flag_updateFlags_last [_, _, _, _, _] _ _ (by simp) (by decide)

theorem operateLogic_frame : RegisterFrame [.a] logicFlags s (operateLogic op b s) :=
  updateFlags_writeReg_frame ..

end Logic

/-- The three rows of AND, OR and XOR are the three logical operations (R231, R233, R235). -/
theorem operateAlu_logic {s : State} {b : Byte} {k : AluOp} {res : Byte} {half : Bool}
    (row : k = .and ∧ res = readReg .a s &&& b ∧ half = true ∨
      k = .or ∧ res = readReg .a s ||| b ∧ half = false ∨
      k = .xor ∧ res = readReg .a s ^^^ b ∧ half = false) :
    ∃ op, operateAlu k b s = operateLogic op b s ∧ res = logicResult op (readReg .a s) b ∧
      half = logicHalfCarry op := by
  obtain ⟨rfl, result, fixed⟩ | ⟨rfl, result, fixed⟩ | ⟨rfl, result, fixed⟩ := row
  · exact ⟨.and, rfl, result, fixed⟩
  · exact ⟨.or, rfl, result, fixed⟩
  · exact ⟨.xor, rfl, result, fixed⟩

/-- Settles O36: both operand forms run the row's logical operation on the operand's value. -/
theorem logicOnAccumulator : Obligations.LogicOnAccumulator := by
  refine fun s b k res half row => ⟨encode_aluReg k, encode_aluImm k b, fun i form => ?_⟩
  obtain ⟨op, run, rfl, rfl⟩ := operateAlu_logic row
  have written := flag_operateLogic op b s
  exact ⟨_, (exec_alu form).trans (congrArg _ run), readReg_a_operateLogic op b s, written .c, written .n,
    written .h, written .pv, written .z, written .s, operateLogic_frame op b s⟩

/-! ## RLCA, SCF, CCF and CPL -/

/-- The bits of the byte RLCA writes: bit 7 comes in at bit 0, every other bit is the one below it (R237). -/
theorem rotatedLeft_getLsbD (a : Byte) {k : Nat} (hk : k < 8) :
    ((a <<< 1) ||| (if a.msb then 1 else 0)).getLsbD k = a.getLsbD ((k + 7) % 8) := by
  cases k with
  | zero =>
    rw [show a.getLsbD ((0 + 7) % 8) = a.msb from (BitVec.msb_eq_getLsbD_last a).symm]
    cases a.msb <;> simp
  | succ k =>
    rw [show (k + 1 + 7) % 8 = k by omega]
    cases a.msb <;> simp [hk, Nat.lt_of_succ_lt hk]

section RotateAndComplement

variable (s : State)

theorem rotateALeft_getLsbD {k : Nat} (hk : k < 8) :
    (readReg .a (rotateALeft s)).getLsbD k = (readReg .a s).getLsbD ((k + 7) % 8) := by
  rw [rotateALeft, readReg_updateFlags_writeReg]
  exact rotatedLeft_getLsbD _ hk

theorem complementA_toNat : (readReg .a (complementA s)).toNat = 255 - (readReg .a s).toNat := by
  rw [complementA, readReg_updateFlags_writeReg, BitVec.toNat_not]

/-- The update of RLCA, SCF and CCF lists C, H and N once each (R237 to R239, decisions D11 and D12). -/
theorem flags_updateFlags_carryFlags (c h n : Bool) :
    flag .c (updateFlags carryFlags [(.c, c), (.h, h), (.n, n)] s) = c ∧
      flag .h (updateFlags carryFlags [(.c, c), (.h, h), (.n, n)] s) = h ∧
      flag .n (updateFlags carryFlags [(.c, c), (.h, h), (.n, n)] s) = n :=
  ⟨flag_updateFlags_last [] _ _ (by simp) (by decide), flag_updateFlags_last [_] _ _ (by simp) (by decide),
    flag_updateFlags_last [_, _] _ _ (by simp) (by decide)⟩

theorem flags_rotateALeft :
    flag .c (rotateALeft s) = (readReg .a s).getLsbD 7 ∧ flag .h (rotateALeft s) = false ∧
      flag .n (rotateALeft s) = false := by
  rw [show (readReg .a s).getLsbD 7 = (readReg .a s).msb from (BitVec.msb_eq_getLsbD_last _).symm]
  exact flags_updateFlags_carryFlags _ _ _ _

theorem flags_setCarry :
    flag .c (setCarry s) = true ∧ flag .h (setCarry s) = false ∧ flag .n (setCarry s) = false :=
  flags_updateFlags_carryFlags s true false false

theorem flags_complementCarry :
    flag .c (complementCarry s) = (!flag .c s) ∧ flag .h (complementCarry s) = flag .c s ∧
      flag .n (complementCarry s) = false :=
  flags_updateFlags_carryFlags s (!flag .c s) (flag .c s) false

theorem flags_complementA : flag .h (complementA s) = true ∧ flag .n (complementA s) = true :=
  ⟨flag_updateFlags_last [] _ _ (by simp) (by decide), flag_updateFlags_last [_] _ _ (by simp) (by decide)⟩

end RotateAndComplement

/-- Settles O37: RLCA and CPL write A and then flags, so their frame leaves out A; SCF and CCF write flags alone. -/
theorem rotateCarryAndComplement : Obligations.RotateCarryAndComplement := by
  intro s
  obtain ⟨rotatedC, rotatedH, rotatedN⟩ := flags_rotateALeft s
  obtain ⟨setC, setH, setN⟩ := flags_setCarry s
  obtain ⟨flippedC, flippedH, flippedN⟩ := flags_complementCarry s
  obtain ⟨complementH, complementN⟩ := flags_complementA s
  exact ⟨rfl, ⟨rotateALeft s, rfl, fun _ => rotateALeft_getLsbD s, rotatedC, rotatedH, rotatedN,
      updateFlags_writeReg_frame ..⟩,
    rfl, ⟨setCarry s, rfl, setC, setH, setN, updateFlags_frame ..⟩,
    rfl, ⟨complementCarry s, rfl, flippedC, flippedH, flippedN, updateFlags_frame ..⟩,
    rfl, complementA s, rfl, complementA_toNat s, complementH, complementN, updateFlags_writeReg_frame ..⟩

end Sys2Proof.Machine
end

section
/-! # Exchange (46_exchange.md R260 to R263)

EX (SP),HL is a word read, a word write and a write of HL, so the rules of those operations give it. The other three
move registers only, and each undoes itself. -/

namespace Sys2Proof.Machine

/-! ## Writing HL, and a word of memory -/

theorem writeReg_frame (r : Reg) (v : Byte) (s : State) : RegisterFrame [r] [] s (writeReg r v s) :=
  updateFlags_writeReg_frame [] [] r v s

theorem writePair_hl_frame (v : Word) (s : State) : RegisterFrame [.h, .l] [] s (writePair .hl v s) := by
  rw [writePair_hl]
  exact (writeReg_frame ..).of_writeReg

@[simp] theorem readReg_h_writePair_hl (v : Word) (s : State) : readReg .h (writePair .hl v s) = hiByte v := rfl

@[simp] theorem readReg_l_writePair_hl (v : Word) (s : State) : readReg .l (writePair .hl v s) = loByte v := rfl

@[simp] theorem memRead_writePair (a : Word) (p : RegPair) (v : Word) (s : State) :
    memRead a (writePair p v s) = memRead a s :=
  congrArg (·.read a.toNat) (writePair_mem p v s)

theorem memWriteWord_storeFrame (a v : Word) (s : State) : StoreFrame [a, a + 1] s (memWriteWord a v s) where
  memory x hx := by
    simp only [List.map_cons, List.map_nil, List.mem_cons, List.not_mem_nil, or_false, not_or] at hx
    obtain ⟨notLow, notHigh⟩ := hx
    rw [memWriteWord_read, if_neg notHigh, if_neg notLow]
  mode := rfl
  system := ⟨rfl, rfl, rfl, rfl⟩

/-! ## EX (SP),HL -/

section StackTop

variable (s : State)

/-- The word at SP is read before HL is stored there (R263). -/
theorem exchangeStackHL_registers :
    readReg .l (exchangeStackHL s) = memRead s.main.sp s ∧
      readReg .h (exchangeStackHL s) = memRead (s.main.sp + 1) s :=
  ⟨(readReg_l_writePair_hl ..).trans (loByte_joinBytes ..), (readReg_h_writePair_hl ..).trans (hiByte_joinBytes ..)⟩

theorem exchangeStackHL_stackTop :
    memRead s.main.sp (exchangeStackHL s) = readReg .l s ∧
      memRead (s.main.sp + 1) (exchangeStackHL s) = readReg .h s := by
  obtain ⟨low, high⟩ := memWriteWord_hl_fetchesAs s.main.sp s
  exact ⟨(memRead_writePair ..).trans low.memRead, (memRead_writePair ..).trans high.memRead⟩

/-- The store comes first and leaves the main set alone, so the rest of that set is kept as by the write of HL. -/
theorem exchangeStackHL_mainFrame :
    RegsSameBut [.h, .l] s (exchangeStackHL s) ∧ (exchangeStackHL s).main.f = s.main.f ∧
      (exchangeStackHL s).main.sp = s.main.sp :=
  have write := writePair_hl_frame (memReadWord s.main.sp s) (memWriteWord s.main.sp (readPair .hl s) s)
  ⟨write.regs, writePair_f .., write.sp⟩

theorem exchangeStackHL_storeFrame : StoreFrame [s.main.sp, s.main.sp + 1] s (exchangeStackHL s) :=
  have store := memWriteWord_storeFrame s.main.sp (readPair .hl s) s
  ⟨store.memory, store.mode, store.system⟩

end StackTop

/-- Settles O40: the registers are the word read, the stack top is the word written. -/
theorem exchangeStackTopWithHL : Obligations.ExchangeStackTopWithHL := by
  intro s
  obtain ⟨low, high⟩ := exchangeStackHL_registers s
  obtain ⟨atSP, aboveSP⟩ := exchangeStackHL_stackTop s
  obtain ⟨registers, f, sp⟩ := exchangeStackHL_mainFrame s
  exact ⟨rfl, exchangeStackHL s, rfl, low, high, atSP, aboveSP, registers, f, sp, rfl, exchangeStackHL_storeFrame s⟩

/-! ## EX AF,AF' and EXX -/

section Shadow

variable (s : State)

theorem exchangeAF_exchangeAF : exchangeAF (exchangeAF s) = s := rfl

theorem exchangeGeneral_exchangeGeneral : exchangeGeneral (exchangeGeneral s) = s := rfl

theorem exchangeGeneral_get {r : Reg} (h : r ≠ .a) :
    (exchangeGeneral s).main.get r = s.shadow.get r ∧ (exchangeGeneral s).shadow.get r = s.main.get r := by
  cases r with
  | a => exact absurd rfl h
  | b | c | d | e | h | l => exact ⟨rfl, rfl⟩

end Shadow

/-- Settles O38: both swaps take the old values of both sides, so the second execution undoes the first. -/
theorem exchangeWithShadowSet : Obligations.ExchangeWithShadowSet := fun s =>
  ⟨rfl, ⟨exchangeAF s, rfl, rfl, congrArg _ (exchangeAF_exchangeAF s)⟩,
    rfl, exchangeGeneral s, rfl, fun _ => exchangeGeneral_get s, rfl, rfl, rfl, rfl, rfl, rfl, rfl,
    congrArg _ (exchangeGeneral_exchangeGeneral s)⟩

/-! ## EX DE,HL -/

section Pairs

variable (s : State)

/-- The two word moves, byte by byte (R262). -/
theorem exchangeDEHL_eq :
    exchangeDEHL s =
      s.setMain { s.main with d := s.main.h, e := s.main.l, h := s.main.d, l := s.main.e } := by
  simp only [exchangeDEHL, writePair, readPair, hiByte_joinBytes, loByte_joinBytes]
  rfl

theorem exchangeDEHL_exchangeDEHL : exchangeDEHL (exchangeDEHL s) = s := by
  rw [exchangeDEHL_eq, exchangeDEHL_eq]
  rfl

/-- The two writes are of different registers: taken in the other order, DE's are the ones written first. -/
theorem exchangeDEHL_frame : RegisterFrame [.d, .e, .h, .l] [] s (exchangeDEHL s) := by
  have order : exchangeDEHL s =
      writePair .hl (readPair .de s)
        (writeReg .e (loByte (readPair .hl s)) (writeReg .d (hiByte (readPair .hl s)) s)) := rfl
  rw [order]
  exact (writePair_hl_frame ..).of_writeReg.of_writeReg

end Pairs

/-- Settles O39: each pair holds the old value of the other, and four registers are all that is written. -/
theorem exchangeDEWithHL : Obligations.ExchangeDEWithHL := fun s =>
  ⟨rfl, exchangeDEHL s, rfl, readPair_writePair_same ..,
    (readPair_writePair_other _ _ (by decide)).trans (readPair_writePair_same ..), exchangeDEHL_frame s,
    congrArg _ (exchangeDEHL_exchangeDEHL s)⟩

end Sys2Proof.Machine
end

section
/-! # Memory instructions (47_memory.md R280 to R288)

Every instruction of the family is one write: of a register, of HL, of a byte or of a word. The rule of that write
gives what is read back and the frame; the statements say which write it is. -/

namespace Sys2Proof.Machine

/-! ## Loads -/

section Loads

variable {i : Instr} {s : State}

/-- What an instruction does whose whole meaning is the write of one register. -/
theorem exec_loads_register {r : Reg} {v : Byte} (run : exec i s = .next (writeReg r v s)) :
    ∃ t, exec i s = .next t ∧ readReg r t = v ∧ RegisterFrame [r] [] s t :=
  ⟨_, run, readReg_writeReg_same r v s, writeReg_frame r v s⟩

/-- HL loaded with a word of memory: L is the byte at the address, H the byte after it (20_memory.md R52). -/
theorem exec_loads_hl {nn : Word} (run : exec i s = .next (writePair .hl (memReadWord nn s) s)) :
    ∃ t, exec i s = .next t ∧ readReg .l t = memRead nn s ∧ readReg .h t = memRead (nn + 1) s ∧
      RegisterFrame [.h, .l] [] s t :=
  ⟨_, run, (readReg_l_writePair_hl ..).trans (loByte_joinBytes ..),
    (readReg_h_writePair_hl ..).trans (hiByte_joinBytes ..), writePair_hl_frame ..⟩

end Loads

/-- Settles O41: both forms write the destination, with the source register or with the immediate. -/
theorem moveAndLoadImmediate : Obligations.MoveAndLoadImmediate := fun dst s =>
  ⟨fun src => ⟨encode_ldReg dst src, exec_loads_register (exec_ldReg s dst src)⟩,
    fun n => ⟨encode_ldRegImm dst n, exec_loads_register (exec_ldRegImm s dst n)⟩⟩

/-- Settles O42: each load writes what memory holds in the old state, so at the old HL for LD r,(HL). -/
theorem loadsFromMemory : Obligations.LoadsFromMemory := fun s =>
  ⟨fun r => ⟨encode_ldRegAtHL r, exec_loads_register (exec_ldRegAtHL s r)⟩,
    fun _ => ⟨rfl, exec_loads_register rfl, rfl, exec_loads_hl rfl⟩⟩

/-! ## Stores -/

theorem memWrite_storeFrame (a : Word) (v : Byte) (s : State) : StoreFrame [a] s (memWrite a v s) where
  memory := memWrite_memSameBut a v s
  mode := rfl
  system := ⟨rfl, rfl, rfl, rfl⟩

/-- What an instruction does whose whole meaning is the store of one byte. -/
theorem exec_stores_byte {i : Instr} {s : State} {a : Word} {v : Byte} (run : exec i s = .next (memWrite a v s)) :
    ∃ t, exec i s = .next t ∧ memRead a t = v ∧ t.main = s.main ∧ t.pc = s.pc ∧ StoreFrame [a] s t :=
  ⟨_, run, memRead_memWrite_same a v s, rfl, rfl, memWrite_storeFrame a v s⟩

/-- Settles O43: each form is one byte store, at HL or at nn. -/
theorem byteStores : Obligations.ByteStores := fun s =>
  ⟨fun r => ⟨encode_ldAtHLReg r, exec_stores_byte (exec_ldAtHLReg s r)⟩,
    fun _ => ⟨rfl, exec_stores_byte rfl⟩, fun _ => ⟨rfl, exec_stores_byte rfl⟩⟩

/-- Settles O44: the word written is HL, whose two bytes lie at distinct addresses, also where nn + 1 wraps. -/
theorem wordStore : Obligations.WordStore := by
  intro nn s
  obtain ⟨low, high⟩ := memWriteWord_hl_fetchesAs nn s
  exact ⟨rfl, storeHLAbs nn s, rfl, low.memRead, high.memRead, rfl, rfl,
    memWriteWord_storeFrame nn (readPair .hl s) s⟩

end Sys2Proof.Machine
end

section
/-! # Stack (48_stack.md R320 to R323)

A pop undoes a push up to memory (`pop16_push16`), and a pair written back where it was read is no change; PUSH and POP
are the two of them with a pair in between. -/

namespace Sys2Proof.Machine

/-! ## PUSH qq -/

/-- The word at the new SP: the byte after the low one is the high one, also where SP wraps. -/
@[simp] theorem memReadWord_push16 (v : Word) (s : State) : memReadWord (s.main.sp - 2) (push16 v s) = v := by
  have next : s.main.sp - 2 + 1 = s.main.sp - 1 := by bv_omega
  rw [memReadWord, next, memRead_push16_high, memRead_push16_low, joinBytes_hiByte_loByte]

/-- Settles O49: PUSH is the push of the pair. -/
theorem pushStoresThePair : Obligations.PushStoresThePair := fun q s =>
  ⟨encode_push q, pushPair q s, exec_push s q, memRead_push16_high .., memRead_push16_low .., rfl,
    memReadWord_push16 .., rfl, push16_storeFrame ..⟩

/-! ## POP qq -/

/-- No two of the four pairs share a register. -/
theorem readStackPair_writeStackPair_other {p q : StackPair} (v : Word) (s : State) (h : p ≠ q) :
    readStackPair p (writeStackPair q v s) = readStackPair p s := by
  cases p <;> cases q <;> first | exact absurd rfl h | rfl

@[simp] theorem readStackPair_writeSP (q : StackPair) (v : Word) (s : State) :
    readStackPair q (writeSP v s) = readStackPair q s := by cases q <;> rfl

@[simp] theorem writeStackPair_sp (q : StackPair) (v : Word) (s : State) :
    (writeStackPair q v s).main.sp = s.main.sp := by cases q <;> rfl

/-- A pop changes the main set only. -/
theorem popPair_eq (q : StackPair) (s : State) : ∃ m, popPair q s = s.setMain m :=
  writeStackPair_eq q (pop16 s).1 (pop16 s).2

theorem popPair_outsideMainSame (q : StackPair) (s : State) : OutsideMainSame s (popPair q s) := by
  obtain ⟨m, h⟩ := popPair_eq q s
  rw [h]
  exact setMain_outsideMainSame m s

/-- Settles O50: POP writes the popped word to the pair, and that write leaves the other pairs and SP alone. -/
theorem popLoadsThePair : Obligations.PopLoadsThePair := fun q s =>
  ⟨encode_pop q, popPair q s, exec_pop s q, readStackPair_writeStackPair_same ..,
    fun p other => (readStackPair_writeStackPair_other _ _ other).trans (readStackPair_writeSP p _ s),
    writeStackPair_sp .., popPair_outsideMainSame q s⟩

/-! ## PUSH qq and POP qq -/

@[simp] theorem readStackPair_setMem (q : StackPair) (m : Memory) (s : State) :
    readStackPair q (s.setMem m) = readStackPair q s := by cases q <;> rfl

/-- A pop gives back the word pushed and SP; only memory is not as before the push (R321). -/
theorem pop16_push16 (v : Word) (s : State) : pop16 (push16 v s) = (v, s.setMem (push16 v s).mem) := by
  have sp : s.main.sp - 2 + 2 = s.main.sp := BitVec.sub_add_cancel ..
  have popped : pop16 (push16 v s) =
      (memReadWord (s.main.sp - 2) (push16 v s), writeSP (s.main.sp - 2 + 2) (push16 v s)) := rfl
  rw [popped, sp, memReadWord_push16]
  rfl

@[simp] theorem writeStackPair_readStackPair (q : StackPair) (s : State) :
    writeStackPair q (readStackPair q s) s = s := by
  cases q <;> simp only [writeStackPair, writePair, readStackPair, readPair, hiByte_joinBytes, loByte_joinBytes] <;> rfl

theorem popPair_pushPair (q : StackPair) (s : State) : popPair q (pushPair q s) = s.setMem (pushPair q s).mem := by
  rw [popPair, pushPair, pop16_push16]
  calc
    writeStackPair q (readStackPair q s) (s.setMem _) =
        writeStackPair q (readStackPair q (s.setMem _)) (s.setMem _) := by rw [readStackPair_setMem]
    _ = s.setMem _ := writeStackPair_readStackPair q _

/-- Settles O51: the pair popped is the one pushed, so the two together change memory only. -/
theorem pushThenPopRestores : Obligations.PushThenPopRestores := fun q s =>
  ⟨pushPair q s, s.setMem (pushPair q s).mem, exec_push s q,
    (exec_pop ..).trans (congrArg _ (popPair_pushPair q s)), rfl, rfl⟩

end Sys2Proof.Machine
end

section
/-! # Exceptional events (60_exceptions.md R341 to R343): the decode failure, instructions that raise nothing, and a
load that does not fit. -/

namespace Sys2Proof.Machine

/-! ## Steps -/

/-- Settles O10: the failed fetch has passed one byte, and the run loop returns what the step does. -/
theorem decodeFailureIsRecordedAndPrecise : Obligations.DecodeFailureIsRecordedAndPrecise := by
  rintro s _ running rfl unimplemented
  have hf := formatOf_eq_unimplemented unimplemented
  have hstep := step_unimplemented running hf
  have returns := stepReturns_unimplemented running hf
  exact ⟨raiseDecodeFailure s.pc (memRead s.pc s) (s.pastBytes 1), rfl, hstep, returns,
    fun fuel => by simp only [runLoop, hstep, returns]⟩

theorem step_next (s : State) : ∃ t, step s = .next t := by
  rcases step_cases s with ⟨_, h⟩ | ⟨_, _, _, _, h⟩ | ⟨_, _, _, _, _, _, _, _, h⟩ <;> exact ⟨_, h⟩

/-- Settles O12: every effect of an instruction keeps the fault record and the latch. -/
theorem everyInstructionCompletes : Obligations.EveryInstructionCompletes := by
  refine ⟨fun i s => ?_, step_next⟩
  obtain ⟨t, run, effect⟩ := exec_effect i s
  exact ⟨t, run, effect.fault, effect.pcOverflowed⟩

/-! ## Loading a program -/

theorem storeBytes_read_outside (m : Memory) {a x : Nat} (program : List Byte)
    (h : x < a ∨ a + program.length ≤ x) : (storeBytes m a program).read x = m.read x := by
  induction program generalizing m a with
  | nil => rfl
  | cons b program ih =>
    rw [List.length_cons] at h
    rw [storeBytes, ih _ (by omega), Memory.read_write_other m b (by omega)]

/-- No later byte of the program is written over an earlier one. -/
theorem storeBytes_read_inside (m : Memory) (a : Nat) (program : List Byte) {k : Nat} (h : k < program.length) :
    (storeBytes m a program).read (a + k) = program[k] := by
  induction program generalizing m a k with
  | nil => exact absurd h (Nat.not_lt_zero k)
  | cons b program ih =>
    cases k with
    | zero =>
      rw [storeBytes, storeBytes_read_outside _ _ (.inl (by omega))]
      exact Memory.read_write_same m a b
    | succ k =>
      have place : a + (k + 1) = a + 1 + k := by omega
      rw [storeBytes, place]
      exact ih _ _ (Nat.lt_of_succ_lt_succ h)

theorem fits_iff (g : Image) : g.fits = true ↔ g.address.toNat + g.program.length ≤ 65536 := decide_eq_true_iff

theorem loadAt_of_fits {g : Image} (h : g.fits = true) (s : State) :
    loadAt g s = (true, s.setMem (storeBytes s.mem g.address.toNat g.program)) := if_pos h

theorem loadAt_of_not_fits {g : Image} (h : g.fits = false) (s : State) : loadAt g s = (false, s) :=
  if_neg (ne_true_of_eq_false h)

/-- Settles O55: the check against the end of memory comes before any write (R120). -/
theorem loadAtIsAllOrNothing : Obligations.LoadAtIsAllOrNothing := by
  intro g s
  rw [← fits_iff]
  cases fits : g.fits with
  | true =>
    rw [loadAt_of_fits fits]
    exact ⟨.rfl, nofun, fun _ => ⟨fun _ => storeBytes_read_inside s.mem _ g.program,
      fun _ => storeBytes_read_outside s.mem g.program, rfl⟩⟩
  | false =>
    rw [loadAt_of_not_fits fits]
    exact ⟨.rfl, fun _ => rfl, nofun⟩

end Sys2Proof.Machine
end

section
/-! # Reset and hazards (70_reset_and_hazards.md R370 to R380): creation, the start of a run, the cycle hook and the
default cycle costs. -/

namespace Sys2Proof.Machine

/-! ## Creation and the start of a run -/

/-- Settles O13: field by field from the definition of creation. -/
theorem creationLeavesHaltedMachine : Obligations.CreationLeavesHaltedMachine :=
  ⟨fun _ => ⟨rfl, rfl, rfl, rfl, rfl, rfl, rfl⟩, rfl⟩

/-- Settles O56: of the two writes of the mode the later one, Running, stays. -/
theorem startingARunIsNotAReset : Obligations.StartingARunIsNotAReset := fun _ _ =>
  ⟨rfl, fun _ => rfl, fun _ => rfl, fun _ => rfl⟩

/-! ## The cycle hook -/

/-- The path is decided by the flags, which a fetch leaves alone. -/
@[simp] theorem pathOf_pastBytes (i : Instr) (n : Nat) (s : State) : pathOf i (s.pastBytes n) = pathOf i s := rfl

theorem conditionOf_jpCond (cc : Cond) (nn : Word) : conditionOf (.jpCond cc nn) = some cc := by cases cc <;> rfl
theorem conditionOf_callCond (cc : Cond) (nn : Word) : conditionOf (.callCond cc nn) = some cc := by cases cc <;> rfl
theorem conditionOf_retCond (cc : Cond) : conditionOf (.retCond cc) = some cc := by cases cc <;> rfl

theorem pathOf_conditional {i : Instr} {cc : Cond} {nn : Word}
    (h : i = .jpCond cc nn ∨ i = .callCond cc nn ∨ i = .retCond cc) (s : State) :
    pathOf i s = if holds cc s then .taken else .notTaken := by
  have condition : conditionOf i = some cc := by
    obtain rfl | rfl | rfl := h
    · exact conditionOf_jpCond cc nn
    · exact conditionOf_callCond cc nn
    · exact conditionOf_retCond cc
  rw [pathOf, condition]

/-- The cycle output of an executed instruction: its effect adds none, and the end of the step adds one. -/
theorem step_of_decode_cycleEvents {s : State} {i : Instr} {rest : List Byte} (running : s.mode = .running)
    (h : decode (bytesAtPc s) = .ok (i, rest)) :
    ∃ t, step s = .next t ∧ stepReturns s = .executed ∧
      t.cycleEvents = { instr := i, path := pathOf i s } :: s.cycleEvents := by
  obtain ⟨u, -, effect, hstep, executed⟩ := step_of_decode running h
  refine ⟨_, hstep, executed, ?_⟩
  rw [endStep_cycleEvents, pathOf_pastBytes, effect.cycleEvents]
  rfl

/-- Settles O58: a halted step, a decode failure and an executed instruction, one by one. -/
theorem cycleHookOncePerInstruction : Obligations.CycleHookOncePerInstruction := by
  intro s
  cases mode : s.mode with
  | halted =>
    obtain ⟨hstep, halted⟩ := stepWhileHaltedDoesNothing s mode
    exact ⟨s, hstep, fun _ => rfl, fun executed => nomatch halted.symm.trans executed⟩
  | running =>
    by_cases hf : formatOf (memRead s.pc s) = .unimplemented
    · have failed := stepReturns_unimplemented mode hf
      exact ⟨_, step_unimplemented mode hf, fun _ => rfl, fun executed => nomatch failed.symm.trans executed⟩
    · obtain ⟨i, rest, decoded, -⟩ := fetchInstr_decodes hf
      obtain ⟨t, hstep, executed, events⟩ := step_of_decode_cycleEvents mode decoded
      exact ⟨t, hstep, fun other => absurd executed other,
        fun _ => ⟨i, rest, decoded, events, fun _ _ form => pathOf_conditional form s⟩⟩

/-! ## The default cycle costs -/

section Costs

variable (p : Path)

theorem defaultCycleCost_jpCond (cc : Cond) (nn : Word) : defaultCycleCost (.jpCond cc nn) p = byPath 10 10 p := by
  cases cc <;> rfl
theorem defaultCycleCost_callCond (cc : Cond) (nn : Word) :
    defaultCycleCost (.callCond cc nn) p = byPath 17 10 p := by cases cc <;> rfl
theorem defaultCycleCost_retCond (cc : Cond) : defaultCycleCost (.retCond cc) p = byPath 11 5 p := by
  cases cc <;> rfl
theorem defaultCycleCost_aluReg (k : AluOp) (r : Reg) : defaultCycleCost (.aluReg k r) p = 4 := by
  cases k <;> cases r <;> rfl
theorem defaultCycleCost_aluImm (k : AluOp) (n : Byte) : defaultCycleCost (.aluImm k n) p = 7 := by
  cases k <;> rfl
theorem defaultCycleCost_incReg (r : Reg) : defaultCycleCost (.incReg r) p = 4 := by cases r <;> rfl
theorem defaultCycleCost_decReg (r : Reg) : defaultCycleCost (.decReg r) p = 4 := by cases r <;> rfl
theorem defaultCycleCost_incPair (pp : RegPair) : defaultCycleCost (.incPair pp) p = 6 := by cases pp <;> rfl
theorem defaultCycleCost_decPair (pp : RegPair) : defaultCycleCost (.decPair pp) p = 6 := by cases pp <;> rfl
theorem defaultCycleCost_addHL (pp : RegPair) : defaultCycleCost (.addHL pp) p = 11 := by cases pp <;> rfl
theorem defaultCycleCost_ldReg (dst src : Reg) : defaultCycleCost (.ldReg dst src) p = 4 := by
  cases dst <;> cases src <;> rfl
theorem defaultCycleCost_ldRegAtHL (r : Reg) : defaultCycleCost (.ldRegAtHL r) p = 7 := by cases r <;> rfl
theorem defaultCycleCost_ldAtHLReg (r : Reg) : defaultCycleCost (.ldAtHLReg r) p = 7 := by cases r <;> rfl
theorem defaultCycleCost_ldRegImm (r : Reg) (n : Byte) : defaultCycleCost (.ldRegImm r n) p = 7 := by
  cases r <;> rfl
theorem defaultCycleCost_push (q : StackPair) : defaultCycleCost (.push q) p = 11 := by cases q <;> rfl
theorem defaultCycleCost_pop (q : StackPair) : defaultCycleCost (.pop q) p = 10 := by cases q <;> rfl

end Costs

/-- Settles O59: a family by the operands of its field, the instructions without one from the table's row. -/
theorem defaultCycleCostsAreTheTable : Obligations.DefaultCycleCostsAreTheTable := fun p r r' n nn cc pp qq k =>
  ⟨rfl, rfl, rfl, defaultCycleCost_jpCond .taken cc nn, defaultCycleCost_jpCond .notTaken cc nn,
    rfl, defaultCycleCost_callCond .taken cc nn, defaultCycleCost_callCond .notTaken cc nn,
    rfl, defaultCycleCost_retCond .taken cc, defaultCycleCost_retCond .notTaken cc,
    defaultCycleCost_aluReg p k r, defaultCycleCost_aluImm p k n, defaultCycleCost_incReg p r,
    defaultCycleCost_decReg p r, defaultCycleCost_incPair p pp, defaultCycleCost_decPair p pp,
    defaultCycleCost_addHL p pp, rfl, rfl, rfl, rfl, rfl, rfl, rfl, rfl, defaultCycleCost_ldReg p r r',
    defaultCycleCost_ldRegAtHL p r, defaultCycleCost_ldAtHLReg p r, defaultCycleCost_ldRegImm p r n,
    rfl, rfl, rfl, rfl, rfl, defaultCycleCost_push p qq, defaultCycleCost_pop p qq⟩

end Sys2Proof.Machine
end
